-- ==== Sys2Proof/Word.lean ====
section
/-! DEFINITION. The two word types of the blocks: u32 and u8 (00_scope.md R12). -/

namespace Sys2Proof

/-- A register value, an offset, a descriptor: an unsigned 32-bit number (R12). -/
abbrev Word := BitVec 32

/-- A FIFO byte, a burst counter, an access size: an unsigned 8-bit number (R12). -/
abbrev Byte := BitVec 8

end Sys2Proof
end

