-- ==== Sys2Proof/Config.lean ====
section
/-! DEFINITION. What an implementation fixes (00_scope.md R7) and the values the spec leaves open, the
latter as constants with no body. -/

namespace Sys2Proof

/-- `SPI_RESET_CS_MODE` (R7, R242, conflict C3): whether the SPI reset drives the chip-select lines. -/
inductive CsResetMode where
  | drive
  | literal
deriving DecidableEq, Repr

/-- The named parameters of R7 that are data. They are fixed at construction and no step changes them
(R58, R240); a depth of 0 is refused when a request meets it (decision D22, log entry 6). -/
structure Params where
  /-- `FIFO_DEPTH`, the same for both FIFOs. -/
  fifoDepth : Nat
  /-- `AGG_RECOMPUTE_ON_IGNORED_WRITE`. -/
  recomputeOnIgnoredWrite : Bool
  /-- `SPI_RESET_CS_MODE`. -/
  resetCsMode : CsResetMode
deriving DecidableEq, Repr

/-- The defaults of R7: depth 64, no recompute on an ignored write, `Drive`. -/
def Params.default : Params :=
  { fifoDepth := 64, recomputeOnIgnoredWrite := false, resetCsMode := .drive }

/-- The state of the device attached to the SPI (`Downstream`, R7, R150, decision D19). `unknown` is the
uninterpreted device, any deterministic device at all; the other three are the concrete instances the spec's
own test vectors name (95_test_vectors.md: the echo device, V-SPI-18, L3-2). A statement about every state
holds for each of them (log entry 7). -/
inductive Downstream where
  /-- a device nothing is known of, in the state the number labels -/
  | unknown (st : Nat)
  /-- answers each byte with itself -/
  | echo
  /-- answers one byte always -/
  | constant (answer : Byte)
  /-- answers the listed bytes in turn, then behaves as an unknown device -/
  | scripted (answers : List Byte) (st : Nat)
deriving DecidableEq, Repr

/-- `Downstream.xfer` of the unknown device: state and outgoing byte to answer and next state (R7, D19).
No body: nothing can be proved of its values. -/
opaque Config.xfer : Nat → Byte → Byte × Nat

/-- Bits 5:4 of a TFR_CTL read while cs_index is -1, "any value" (R95, R161, D21), by draw. No body. -/
opaque Config.csIndexBits : Nat → BitVec 2

/-- `BASE_IA`, a platform parameter (20_memory.md R70). No body. -/
opaque Config.baseIa : Word

/-- `BASE_SPI`, a platform parameter (20_memory.md R70). No body. -/
opaque Config.baseSpi : Word

end Sys2Proof
end

