-- ==== Sys2Proof/Syntax.lean ====
section
/-! DEFINITION. The requests of the opcode table (30_encoding.md R96, R97), one constructor a row, and the packet
a request travels as (R91 and log entry 1). -/

namespace Sys2Proof

/-- One of the two blocks, the spec's "unit". -/
inductive Block where
  | ia
  | spi
deriving DecidableEq, Repr

/-- One request: a row of spec/opcode_table.json with its operands. `value` is the u32 of a write; `size` is
the access size an SPI request carries (R90); `offset` is the 32-bit byte offset of an undefined-offset
request (R71). -/
inductive Instr where
  /-- `IA.R.VECTOR` (R115) -/
  | iaRVector
  /-- `IA.R.BASE_ADDR` (R116) -/
  | iaRBaseAddr
  /-- `IA.R.NMI_CTL` (R117) -/
  | iaRNmiCtl
  /-- `IA.R.PENDING0` (R118) -/
  | iaRPending0
  /-- `IA.R.PENDING1` (R119) -/
  | iaRPending1
  /-- `IA.R.ENABLE0` (R120) -/
  | iaREnable0
  /-- `IA.R.ENABLE1` (R121) -/
  | iaREnable1
  /-- `IA.R.MASK0` (R122) -/
  | iaRMask0
  /-- `IA.R.MASK1` (R123) -/
  | iaRMask1
  /-- `IA.R.UNDEF` (R124) -/
  | iaRUndef (offset : Word)
  /-- `IA.W.VECTOR` (R125) -/
  | iaWVector (value : Word)
  /-- `IA.W.BASE_ADDR` (R126) -/
  | iaWBaseAddr (value : Word)
  /-- `IA.W.NMI_CTL` (R127) -/
  | iaWNmiCtl (value : Word)
  /-- `IA.W.PENDING0` (R128) -/
  | iaWPending0 (value : Word)
  /-- `IA.W.PENDING1` (R129) -/
  | iaWPending1 (value : Word)
  /-- `IA.W.ENABLE0` (R130) -/
  | iaWEnable0 (value : Word)
  /-- `IA.W.ENABLE1` (R131) -/
  | iaWEnable1 (value : Word)
  /-- `IA.W.MASK0` (R132) -/
  | iaWMask0 (value : Word)
  /-- `IA.W.MASK1` (R133) -/
  | iaWMask1 (value : Word)
  /-- `IA.W.UNDEF` (R134) -/
  | iaWUndef (offset : Word) (value : Word)
  /-- `IA.LINE` (R92, R114): the descriptor gives the line six bits -/
  | iaLine (line : BitVec 6) (level : Bool)
  /-- `IA.RESET` (R243) -/
  | iaReset
  /-- `SPI.R.GLB_CTL` (R160) -/
  | spiRGlbCtl (size : Byte)
  /-- `SPI.R.TFR_CTL` (R161) -/
  | spiRTfrCtl (size : Byte)
  /-- `SPI.R.INT_CTL` (R162) -/
  | spiRIntCtl (size : Byte)
  /-- `SPI.R.FIFO_CTL` (R163) -/
  | spiRFifoCtl (size : Byte)
  /-- `SPI.R.FIFO_STA` (R164) -/
  | spiRFifoSta (size : Byte)
  /-- `SPI.R.CLK_CTL` (R165) -/
  | spiRClkCtl (size : Byte)
  /-- `SPI.R.BURST_CNT` (R166) -/
  | spiRBurstCnt (size : Byte)
  /-- `SPI.R.SEND_CNT` (R167) -/
  | spiRSendCnt (size : Byte)
  /-- `SPI.R.BURST_CTL` (R168) -/
  | spiRBurstCtl (size : Byte)
  /-- `SPI.R.TXDATA` (R169) -/
  | spiRTxdata (size : Byte)
  /-- `SPI.R.RXDATA` (R170) -/
  | spiRRxdata (size : Byte)
  /-- `SPI.R.UNDEF` (R171) -/
  | spiRUndef (offset : Word) (size : Byte)
  /-- `SPI.W.GLB_CTL` (R175) -/
  | spiWGlbCtl (value : Word) (size : Byte)
  /-- `SPI.W.TFR_CTL` (R176) -/
  | spiWTfrCtl (value : Word) (size : Byte)
  /-- `SPI.W.INT_CTL` (R177) -/
  | spiWIntCtl (value : Word) (size : Byte)
  /-- `SPI.W.FIFO_CTL` (R178) -/
  | spiWFifoCtl (value : Word) (size : Byte)
  /-- `SPI.W.FIFO_STA` (R179) -/
  | spiWFifoSta (value : Word) (size : Byte)
  /-- `SPI.W.CLK_CTL` (R180) -/
  | spiWClkCtl (value : Word) (size : Byte)
  /-- `SPI.W.BURST_CNT` (R181) -/
  | spiWBurstCnt (value : Word) (size : Byte)
  /-- `SPI.W.SEND_CNT` (R182) -/
  | spiWSendCnt (value : Word) (size : Byte)
  /-- `SPI.W.BURST_CTL` (R183) -/
  | spiWBurstCtl (value : Word) (size : Byte)
  /-- `SPI.W.TXDATA` (R184) -/
  | spiWTxdata (value : Word) (size : Byte)
  /-- `SPI.W.RXDATA` (R185) -/
  | spiWRxdata (value : Word) (size : Byte)
  /-- `SPI.W.UNDEF` (R186) -/
  | spiWUndef (offset : Word) (value : Word) (size : Byte)
  /-- `SPI.RESET` (R244) -/
  | spiReset
deriving DecidableEq, Repr

/-- The block a request is for: bit 31 of its descriptor (R91). -/
def Instr.block : Instr → Block
  | .iaRVector => .ia
  | .iaRBaseAddr => .ia
  | .iaRNmiCtl => .ia
  | .iaRPending0 => .ia
  | .iaRPending1 => .ia
  | .iaREnable0 => .ia
  | .iaREnable1 => .ia
  | .iaRMask0 => .ia
  | .iaRMask1 => .ia
  | .iaRUndef _ => .ia
  | .iaWVector _ => .ia
  | .iaWBaseAddr _ => .ia
  | .iaWNmiCtl _ => .ia
  | .iaWPending0 _ => .ia
  | .iaWPending1 _ => .ia
  | .iaWEnable0 _ => .ia
  | .iaWEnable1 _ => .ia
  | .iaWMask0 _ => .ia
  | .iaWMask1 _ => .ia
  | .iaWUndef _ _ => .ia
  | .iaLine _ _ => .ia
  | .iaReset => .ia
  | .spiRGlbCtl _ => .spi
  | .spiRTfrCtl _ => .spi
  | .spiRIntCtl _ => .spi
  | .spiRFifoCtl _ => .spi
  | .spiRFifoSta _ => .spi
  | .spiRClkCtl _ => .spi
  | .spiRBurstCnt _ => .spi
  | .spiRSendCnt _ => .spi
  | .spiRBurstCtl _ => .spi
  | .spiRTxdata _ => .spi
  | .spiRRxdata _ => .spi
  | .spiRUndef _ _ => .spi
  | .spiWGlbCtl _ _ => .spi
  | .spiWTfrCtl _ _ => .spi
  | .spiWIntCtl _ _ => .spi
  | .spiWFifoCtl _ _ => .spi
  | .spiWFifoSta _ _ => .spi
  | .spiWClkCtl _ _ => .spi
  | .spiWBurstCnt _ _ => .spi
  | .spiWSendCnt _ _ => .spi
  | .spiWBurstCtl _ _ => .spi
  | .spiWTxdata _ _ => .spi
  | .spiWRxdata _ _ => .spi
  | .spiWUndef _ _ _ => .spi
  | .spiReset => .spi

/-- A request as it travels. The 32-bit descriptor is the spec's (R91); `value` and the size travel beside it
(R91); an offset of 2^28 or more "has no descriptor of its own" (R91), so bits 31:28 of the offset travel
beside it too. The size lane holds the size less one, so that an all-zero lane is the size 1. `nested` marks a
request issued by the downstream device while a burst runs (R16, R88). The lanes beside the descriptor are the
model's own form (log entry 1). -/
structure Packet where
  desc : Word
  value : Word
  sizeLane : Byte
  offHi : BitVec 4
  nested : Bool
deriving DecidableEq, Repr

/-- Why a packet names no request (R16, R91 to R93). -/
inductive DecodeError where
  /-- the descriptor's kind is 100 to 111 (R91) -/
  | noSuchKind (kind : BitVec 3)
  /-- a LINE descriptor with U = 1 (R92) -/
  | lineToSpi
  /-- a LINE descriptor with one of bits 27:9, 7:6 set (R92), or a non-zero offset lane beside it (log entry 20) -/
  | lineReservedBits
  /-- a RESET descriptor with one of bits 27:0 set (R93), or a non-zero offset lane beside it (log entry 20) -/
  | resetReservedBits
  /-- a request of the downstream device during its own `xfer` call (R88) -/
  | nestedRequest
deriving DecidableEq, Repr

end Sys2Proof
end

