-- ==== Sys2Proof/Machine/State.lean ====
section
/-! DEFINITION. The state of the two blocks (10_state.md), the downstream device, the requests to come and the
output of the latest one; the ways a step can stop; the state after reset. All plain data. -/

namespace Sys2Proof.Machine

/-- The direction of a register access, as a diagnostic report names it (R211). -/
inductive Dir where
  | read
  | write
deriving DecidableEq, Repr

/-- An output event (00_scope.md R11). -/
inductive Event where
  /-- `IRQ(level)`: a drive of `irq_out` -/
  | irq (level : Bool)
  /-- `CS(n, level)`: a drive of `cs_line[n]` -/
  | cs (n : BitVec 2) (level : Bool)
  /-- `XFER(out, in)`: one downstream exchange -/
  | xfer (out answer : Byte)
  /-- `DIAG(unit, dir, offset)`: a diagnostic report (R211) -/
  | diag (unit : Block) (dir : Dir) (offset : Word)
deriving DecidableEq, Repr

/-- One 32-bit group of interrupt lines: bank b holds lines 32*b to 32*b+31 (00_scope.md glossary, R30). -/
inductive Bank where
  | zero
  | one
deriving DecidableEq, Repr

/-- The InterruptAggregator's state (R30 to R36). -/
structure Ia where
  pending0 : Word
  pending1 : Word
  enable0 : Word
  enable1 : Word
  mask0 : Word
  mask1 : Word
  vector : Word
  baseAddr : Word
  nmiCtl : Word
  irqOut : Bool
deriving DecidableEq, Repr

/-- `cs_index`: one of the four lines, or `none` for the value -1 (R41). -/
abbrev CsIndex := Option (BitVec 2)

/-- The SpiController's state (R40 to R44). A level of `true` is 1, high, deasserted (R42). -/
structure Spi where
  /-- oldest byte first (R40) -/
  txFifo : List Byte
  /-- oldest byte first (R40) -/
  rxFifo : List Byte
  csIndex : CsIndex
  csLevel : Bool
  csLine : Vector Bool 4
  startBurst : Bool
  burstBytes : Byte
  sendBytes : Byte
deriving DecidableEq, Repr

/-- The machine: both blocks (independent, R3), what is fixed at construction (R58), the device outside (R150),
the serialized requests to come (R8, R82), and the output of the latest request (R11, R15). `draws` counts the
free values drawn and is the model's own (log entry 9). -/
structure State where
  ia : Ia
  spi : Spi
  params : Params
  device : Downstream
  inputs : List Packet
  events : List Event
  result : Option Word
  draws : Nat
deriving DecidableEq, Repr

/-- No request of either block raises an exception, aborts or fails to its caller (R210): there is no fault. -/
inductive Fault
deriving DecidableEq, Repr

/-- Requests the machine gives no step (R16, R213). Each ends the run, which is safe: a claim about a run that
holds one says nothing. -/
inductive Refusal where
  /-- exec's arm of an instruction that has no meaning yet; safe -/
  | notModelled (mnemonic : String)
  /-- the fetch: the packet names no request (R88, R91 to R93); safe -/
  | noRequest (why : DecodeError)
  /-- IA.LINE with a line above 40 (R114, R16); safe -/
  | lineOutOfRange (line : BitVec 6)
  /-- an SPI request with a size outside 1..4 (R16, R76); safe -/
  | sizeOutOfRange (size : Byte)
  /-- an SPI request or reset where FIFO_DEPTH is 0 (decision D22); safe -/
  | fifoDepthZero
  /-- an undefined-offset request whose offset a register map holds: no decoder answer is one (R98); safe -/
  | offsetIsDefined (offset : Word)
deriving DecidableEq, Repr

/-- The IA at construction and after reset (R60, R241). -/
def Ia.initial : Ia :=
  { pending0 := 0, pending1 := 0, enable0 := 0, enable1 := 0, mask0 := 0, mask1 := 0
    vector := 0, baseAddr := 0, nmiCtl := 0, irqOut := false }

/-- The SPI at construction (R60, R240): all four lines high. -/
def Spi.initial : Spi :=
  { txFifo := [], rxFifo := [], csIndex := some 0, csLevel := true
    csLine := Vector.replicate 4 true
    startBurst := false, burstBytes := 0, sendBytes := 0 }

/-- Both blocks constructed with the given parameters and device (R240). -/
def State.construct (p : Params) (d : Downstream) : State :=
  { ia := Ia.initial, spi := Spi.initial, params := p, device := d
    inputs := [], events := [], result := none, draws := 0 }

/-- The machine right after reset (R60), with the default parameters (R7), an unknown device and no request
to come (log entries 2, 5, 8). -/
def State.reset : State := State.construct Params.default (.unknown 0)

end Sys2Proof.Machine
end

