-- ==== Sys2Proof/Machine/Operands.lean ====
section
/-! DEFINITION. The fields a write value is cut into (30_encoding.md R94) and the words a read value is put
together from (R95). -/

namespace Sys2Proof.Machine

/-- `v[i]`; a bit index at or beyond the width selects 0 (R12). -/
def bitAt (v : Word) (i : Nat) : Bool := v.getLsbD i

/-- BASE_ADDR stores `v & 0xFFFFFFFC` (R94, R126). -/
def baseAddrField (v : Word) : Word := v &&& 0xFFFFFFFC

/-- PENDINGn stores `~v` (R94, R128, R129). -/
def pendingField (v : Word) : Word := ~~~v

/-- GLB_CTL `srst = v[31]` (R46, R94). -/
def srstField (v : Word) : Bool := bitAt v 31

/-- TFR_CTL `req_index = v[5:4]` (R47, R94). -/
def csSelField (v : Word) : BitVec 2 := v.extractLsb' 4 2

/-- TFR_CTL `req_level = v[7]` (R47, R94). -/
def csLvlField (v : Word) : Bool := bitAt v 7

/-- TFR_CTL `start = v[31]` (R47, R94). -/
def startField (v : Word) : Bool := bitAt v 31

/-- FIFO_CTL `rx_clear = v[15]` (R48, R94). -/
def rxClearField (v : Word) : Bool := bitAt v 15

/-- FIFO_CTL `tx_clear = v[32]`, the literal dead bit: always 0 (R48, R94, R101). -/
def txClearField (v : Word) : Bool := bitAt v 32

/-- `v[7:0]`: BURST_CNT, SEND_CNT, BURST_CTL, TXDATA (R94). -/
def lowByteField (v : Word) : Byte := v.extractLsb' 0 8

/-- A Bool met as a bit (R12). -/
def bitWord (b : Bool) : Word := (BitVec.ofBool b).setWidth 32

/-- The TFR_CTL read value (R47, R95). -/
def tfrCtlWord (sel : BitVec 2) (level start : Bool) : Word :=
  (sel.setWidth 32 <<< 4) ||| (bitWord level <<< 7) ||| (bitWord start <<< 31)

/-- `n & 0x7F` (R49). -/
def low7 (n : Nat) : Word := (BitVec.ofNat 32 n : Word) &&& (0x7F : Word)

/-- The FIFO_STA read value: each count is the low 7 bits of the occupancy (R49, R95, conflict C5). -/
def fifoStaWord (rx tx : Nat) : Word := low7 rx ||| (low7 tx <<< 16)

/-- `zext_32` of a counter (R13, R95). -/
def counterWord (n : Byte) : Word := n.setWidth 32

/-- The SPI accepts sizes 1 to 4 (R16, R76). -/
def sizeInRange (size : Byte) : Bool := decide (1 ≤ size.toNat ∧ size.toNat ≤ 4)

/-- The IA accepts line notifications for lines 0 to 40 (R9, R114). -/
def lineInRange (line : BitVec 6) : Bool := decide (line.toNat ≤ 40)

/-- The offsets of the IA's register map (R38, R71): any other is undefined. -/
def iaMap : List Word := [0x00, 0x04, 0x0C, 0x10, 0x14, 0x20, 0x24, 0x30, 0x34]

/-- The offsets of the SPI's register map (R45, R71): any other is undefined. -/
def spiMap : List Word :=
  [0x04, 0x08, 0x10, 0x18, 0x1C, 0x24, 0x30, 0x34, 0x38, 0x200, 0x300]

/-- The bank of a line, `line div 32` (R30, R114). -/
def lineBank (line : BitVec 6) : Bank := if line.toNat < 32 then .zero else .one

/-- The bit of a line in its bank, `line mod 32` (R30, R114). -/
def lineBit (line : BitVec 6) : Nat := line.toNat % 32

end Sys2Proof.Machine
end

