-- ==== Sys2Proof/Machine/Flags.lean ====
section
/-! DEFINITION. The conditions the blocks compute: there are no condition codes (10_state.md R55), so these are
the priority encoder's count and candidates, the request output, the automatic chip-select condition and the
FIFO conditions. -/

namespace Sys2Proof.Machine

/-- `ctz32`: the least k with `v[k] = 1`, and 32 where there is none (R14). -/
def ctz32 (v : Word) : Nat := ((List.range 32).find? (fun k => v.getLsbD k)).getD 32

/-- `1 << k`, for k in 0..31 (R12). -/
def oneBit (k : Nat) : Word := (1 : Word) <<< k

/-- `v` with bit k set to a level (R114). -/
def setBit (v : Word) (k : Nat) (level : Bool) : Word :=
  if level then v ||| oneBit k else v &&& ~~~(oneBit k)

/-- `irq_out` of a vector: asserted exactly when it is non-zero (R113). -/
def irqOf (vector : Word) : Bool := decide (vector ≠ 0)

/-- A burst drives the chip-select itself: `send_bytes < burst_bytes`, unsigned (R153). -/
def autoCs (q : Spi) : Bool := decide (q.sendBytes.toNat < q.burstBytes.toNat)

/-- `full(q)` (R17). -/
def fifoFull (depth : Nat) (q : List Byte) : Bool := decide (depth ≤ q.length)

/-- `empty(q)` (R17). -/
def fifoEmpty (q : List Byte) : Bool := q.isEmpty

end Sys2Proof.Machine
end

