-- ==== Sys2Proof/Machine/Ops.lean ====
section
/-! DEFINITION. The shared operations of the meanings: output, the recompute, the FIFO primitives, the
chip-select protocol, the downstream exchange, the burst and the two resets. -/

namespace Sys2Proof.Machine

/-! Output -/

/-- `emit E` (R11, R15). -/
def State.emit (s : State) (e : Event) : State := { s with events := s.events ++ [e] }

/-- `return v` of a read (R15). -/
def State.answer (s : State) (v : Word) : State := { s with result := some v }

/-- Store the IA's registers. -/
def State.withIa (s : State) (a : Ia) : State := { s with ia := a }

/-- Store the SPI's registers. -/
def State.withSpi (s : State) (q : Spi) : State := { s with spi := q }

/-- Store the downstream device's state. -/
def State.withDevice (s : State) (d : Downstream) : State := { s with device := d }

/-- Draw one free value (log entry 9). -/
def State.drawn (s : State) : State := { s with draws := s.draws + 1 }

/-- The code of a diagnostic report (R211, decision D23). -/
def diagCode (unit : Block) (dir : Dir) : Nat :=
  match unit, dir with
  | .ia, .read => 1
  | .ia, .write => 2
  | .spi, .read => 3
  | .spi, .write => 4

/-! The InterruptAggregator -/

/-- The bank's number b (R30). -/
def Bank.num (b : Bank) : Nat := match b with | .zero => 0 | .one => 1

/-- `pending[b]`. -/
def Ia.pending (a : Ia) (b : Bank) : Word := match b with | .zero => a.pending0 | .one => a.pending1

/-- `enable[b]`. -/
def Ia.enable (a : Ia) (b : Bank) : Word := match b with | .zero => a.enable0 | .one => a.enable1

/-- `mask[b]`. -/
def Ia.mask (a : Ia) (b : Bank) : Word := match b with | .zero => a.mask0 | .one => a.mask1

/-- `pending[b] <- w`. -/
def Ia.setPending (a : Ia) (b : Bank) (w : Word) : Ia :=
  match b with | .zero => { a with pending0 := w } | .one => { a with pending1 := w }

/-- `enable[b] <- w`. -/
def Ia.setEnable (a : Ia) (b : Bank) (w : Word) : Ia :=
  match b with | .zero => { a with enable0 := w } | .one => { a with enable1 := w }

/-- `mask[b] <- w`. -/
def Ia.setMask (a : Ia) (b : Bank) (w : Word) : Ia :=
  match b with | .zero => { a with mask0 := w } | .one => { a with mask1 := w }

/-- `active & pending[b]` with `active = enable[b] & ~mask[b]`: the candidates of a bank (R110, R216). -/
def Ia.candidates (a : Ia) (b : Bank) : Word := a.enable b &&& ~~~(a.mask b) &&& a.pending b

/-- The recompute's running values: `sel`, `v`, and the registers with the pending words it writes (R110). -/
structure Scan where
  sel : Bool
  v : Nat
  ia : Ia
deriving DecidableEq, Repr

/-- One pass of the recompute's loop, for bank b (R110): the winner's pending word gets `~(1 << z)` OR-ed in. -/
def scanBank (c : Scan) (b : Bank) : Scan :=
  let z := ctz32 (c.ia.candidates b)
  if c.sel = false ∧ z < 32 then
    { sel := true
      v := (b.num * 32 + z) * 4
      ia := c.ia.setPending b (c.ia.pending b ||| ~~~(oneBit z)) }
  else c

/-- Bank 0, then bank 1, with no early exit (R110). -/
def scanBanks (a : Ia) : Scan :=
  [Bank.zero, Bank.one].foldl scanBank { sel := false, v := 0, ia := a }

/-- The registers after a recompute (R110). -/
def Ia.recomputed (a : Ia) : Ia :=
  let c := scanBanks a
  { c.ia with vector := BitVec.ofNat 32 c.v, irqOut := irqOf (BitVec.ofNat 32 c.v) }

/-- `recompute()` (R110): the registers, and the event `IRQ(irq_out)` every time (decision D12). -/
def State.recompute (s : State) : State :=
  (s.withIa s.ia.recomputed).emit (.irq s.ia.recomputed.irqOut)

/-- The recompute after a write that stores nothing, if the parameter asks for it (R125, R134, R136). -/
def State.recomputeIfIgnored (s : State) : State :=
  if s.params.recomputeOnIgnoredWrite then s.recompute else s

/-- A write that stores, then recomputes (R136). -/
def State.storeIa (s : State) (a : Ia) : State := (s.withIa a).recompute

/-- The registers with the line's pending bit set to the level (R114). -/
def Ia.notified (a : Ia) (line : BitVec 6) (level : Bool) : Ia :=
  a.setPending (lineBank line) (setBit (a.pending (lineBank line)) (lineBit line) level)

/-- `ia_reset()` (R241). -/
def State.iaReset (s : State) : State := (s.withIa Ia.initial).emit (.irq false)

/-- The report of an access to an undefined offset (R99, R211). -/
def State.report (s : State) (unit : Block) (dir : Dir) (offset : Word) : State :=
  s.emit (.diag unit dir offset)

/-! FIFO primitives -/

/-- `push(q, b)`: dropped when full (R17). -/
def fifoPush (depth : Nat) (q : List Byte) (b : Byte) : List Byte :=
  if fifoFull depth q then q else q ++ [b]

/-- `pop(q)`: nothing from an empty queue (R17). -/
def fifoPop (q : List Byte) : Option Byte × List Byte :=
  match q with
  | [] => (none, [])
  | b :: rest => (some b, rest)

/-- `clear(q)` (R17). -/
def fifoClear : List Byte := []

/-- The filler byte (R7). -/
def spiFiller : Byte := 0xFF

/-- The RXDATA read's loop (R170): `n` positions from position `k` on, packed little-endian onto `r`. -/
def popWord : Nat → Nat → Word → List Byte → Word × List Byte
  | 0, _, r, q => (r, q)
  | n + 1, k, r, q =>
    match fifoPop q with
    | (some b, rest) => popWord n (k + 1) (r ||| (b.setWidth 32 <<< (8 * k))) rest
    | (none, rest) => popWord n (k + 1) r rest

/-! The SpiController -/

/-- `xfer` of the attached device: its answer and its next state (R150). -/
def deviceXfer (d : Downstream) (out : Byte) : Byte × Downstream :=
  match d with
  | .unknown st => ((Config.xfer st out).1, .unknown (Config.xfer st out).2)
  | .echo => (out, .echo)
  | .constant b => (b, .constant b)
  | .scripted (b :: rest) st => (b, .scripted rest st)
  | .scripted [] st => ((Config.xfer st out).1, .unknown (Config.xfer st out).2)

/-- Drive one chip-select line: its level and the event `CS(n, level)`, changed or not (R11, R151). -/
def State.driveCs (s : State) (n : BitVec 2) (level : Bool) : State :=
  (s.withSpi { s.spi with csLine := s.spi.csLine.set n.toNat level n.isLt }).emit (.cs n level)

/-- The four drives of an actioned protocol call, lines 0, 1, 2, 3 (R151, decision D15). -/
def State.raiseCs (s : State) : State :=
  [(0 : BitVec 2), 1, 2, 3].foldl (fun t n => t.driveCs n true) s

/-- The drive of the requested line, if one is requested (R151). -/
def State.driveSelected (s : State) (index : CsIndex) (level : Bool) : State :=
  match index with
  | some n => s.driveCs n level
  | none => s

/-- `cs_index <- index ; cs_level <- level` (R151). -/
def State.storeCs (s : State) (index : CsIndex) (level : Bool) : State :=
  s.withSpi { s.spi with csIndex := index, csLevel := level }

/-- `update_cs(req_index, req_level)` (R151). -/
def State.updateCs (s : State) (index : CsIndex) (level : Bool) : State :=
  if index = s.spi.csIndex ∧ level = s.spi.csLevel then s
  else (s.raiseCs.driveSelected index level).storeCs index level

/-- The outgoing byte of exchange i and the TX FIFO it leaves (R153, step 2). -/
def nextOut (i send : Nat) (tx : List Byte) : Byte × List Byte :=
  if i < send then ((fifoPop tx).1.getD spiFiller, (fifoPop tx).2) else (spiFiller, tx)

/-- Exchange i of a burst: choose the byte, call the device, report, push the answer (R150, R153). -/
def State.exchange (s : State) (i : Nat) : State :=
  let out := nextOut i s.spi.sendBytes.toNat s.spi.txFifo
  let ans := deviceXfer s.device out.1
  ((s.withSpi { s.spi with
      txFifo := out.2
      rxFifo := fifoPush s.params.fifoDepth s.spi.rxFifo ans.1 }).withDevice ans.2).emit (.xfer out.1 ans.1)

/-- `n` exchanges from exchange i on, in order (R83, R153). -/
def State.exchanges : Nat → Nat → State → State
  | 0, _, s => s
  | n + 1, i, s => State.exchanges n (i + 1) (s.exchange i)

/-- `run_burst()` (R153). -/
def State.runBurst (s : State) : State :=
  let auto := autoCs s.spi
  let s1 := if auto then s.updateCs s.spi.csIndex false else s
  let s2 := State.exchanges s.spi.burstBytes.toNat 0 s1
  let s3 := if auto then s2.updateCs s2.spi.csIndex true else s2
  s3.withSpi { s3.spi with startBurst := false }

/-- The TFR_CTL write's effect (R176). -/
def State.tfrCtlWrite (s : State) (value : Word) : State :=
  let s1 := s.updateCs (some (csSelField value)) (csLvlField value)
  let s2 := s1.withSpi { s1.spi with startBurst := startField value }
  if startField value then s2.runBurst else s2

/-- The chip-select part of the SPI reset (R242): `Drive` makes the drives of an actioned call, `Literal` makes
the protocol call, which is not actioned. -/
def State.resetCs (s : State) : State :=
  let s1 := s.storeCs (some 0) true
  match s1.params.resetCsMode with
  | .drive => s1.raiseCs.driveCs 0 true
  | .literal => s1.updateCs (some 0) true

/-- `do_reset()` (R242). -/
def State.spiReset (s : State) : State :=
  let s1 := s.resetCs
  s1.withSpi { s1.spi with
    startBurst := false
    burstBytes := 0
    sendBytes := 0
    txFifo := fifoClear
    rxFifo := fifoClear }

/-- The TFR_CTL read (R161): while cs_index is -1, bits 5:4 are a free value (R95, decision D21). -/
def State.tfrCtlRead (s : State) : State :=
  match s.spi.csIndex with
  | some n => s.answer (tfrCtlWord n s.spi.csLevel s.spi.startBurst)
  | none => s.drawn.answer (tfrCtlWord (Config.csIndexBits s.draws) s.spi.csLevel s.spi.startBurst)

/-- The RXDATA read (R170). -/
def State.rxDataRead (s : State) (size : Byte) : State :=
  let r := popWord size.toNat 0 0 s.spi.rxFifo
  (s.withSpi { s.spi with rxFifo := r.2 }).answer r.1

/-- The FIFO_CTL write (R178): the TX clear first, then the RX clear. -/
def State.fifoCtlWrite (s : State) (value : Word) : State :=
  let s1 := if txClearField value then s.withSpi { s.spi with txFifo := fifoClear } else s
  if rxClearField value then s1.withSpi { s1.spi with rxFifo := fifoClear } else s1

/-! Requests outside the domain -/

/-- The effect `t` of an SPI request or reset, refused where the SPI could not be built (decision D22). -/
def spiBuilt (s t : State) : Host.Outcome State Fault Refusal :=
  if s.params.fifoDepth = 0 then .refused .fifoDepthZero else .next t

/-- The effect `t` of an SPI register access of a given size, refused outside 1..4 (R16, R76). -/
def spiAccess (size : Byte) (s t : State) : Host.Outcome State Fault Refusal :=
  if sizeInRange size then spiBuilt s t else .refused (.sizeOutOfRange size)

/-- The effect `t` of a line notification, refused above line 40 (R16, R114). -/
def lineAccess (line : BitVec 6) (t : State) : Host.Outcome State Fault Refusal :=
  if lineInRange line then .next t else .refused (.lineOutOfRange line)

/-- The outcome `o` of an access to an undefined offset; a defined offset is another request (R98). -/
def undefAccess (map : List Word) (offset : Word) (o : Host.Outcome State Fault Refusal) :
    Host.Outcome State Fault Refusal :=
  if map.contains offset then .refused (.offsetIsDefined offset) else o

end Sys2Proof.Machine
end

