-- ==== Sys2Proof/Machine/IaEvents.lean ====
section
/-! DEFINITION. The IA's line notification and system reset (40_intc.md R114, 70_reset_and_hazards.md R243). -/

namespace Sys2Proof.Machine

/-- `IA.LINE` (R114): the pending bit takes the level, then the recompute, changed or not. -/
def execIaLine (line : BitVec 6) (level : Bool) (s : State) : Host.Outcome State Fault Refusal :=
  lineAccess line (s.storeIa (s.ia.notified line level))

/-- `IA.RESET` (R243). -/
def execIaReset (s : State) : Host.Outcome State Fault Refusal :=
  .next s.iaReset

end Sys2Proof.Machine
end

