-- ==== Sys2Proof/Machine/IaReads.lean ====
section
/-! DEFINITION. The IA's register reads (40_intc.md R115 to R124). -/

namespace Sys2Proof.Machine

/-- `IA.R.VECTOR` (R115): returns the register; no recompute, no other effect (R78). -/
def execIaRVector (s : State) : Host.Outcome State Fault Refusal :=
  .next (s.answer s.ia.vector)

/-- `IA.R.BASE_ADDR` (R116): returns the register; no recompute, no other effect (R78). -/
def execIaRBaseAddr (s : State) : Host.Outcome State Fault Refusal :=
  .next (s.answer s.ia.baseAddr)

/-- `IA.R.NMI_CTL` (R117): returns the register; no recompute, no other effect (R78). -/
def execIaRNmiCtl (s : State) : Host.Outcome State Fault Refusal :=
  .next (s.answer s.ia.nmiCtl)

/-- `IA.R.PENDING0` (R118): returns the register; no recompute, no other effect (R78). -/
def execIaRPending0 (s : State) : Host.Outcome State Fault Refusal :=
  .next (s.answer (s.ia.pending .zero))

/-- `IA.R.PENDING1` (R119): returns the register; no recompute, no other effect (R78). -/
def execIaRPending1 (s : State) : Host.Outcome State Fault Refusal :=
  .next (s.answer (s.ia.pending .one))

/-- `IA.R.ENABLE0` (R120): returns the register; no recompute, no other effect (R78). -/
def execIaREnable0 (s : State) : Host.Outcome State Fault Refusal :=
  .next (s.answer (s.ia.enable .zero))

/-- `IA.R.ENABLE1` (R121): returns the register; no recompute, no other effect (R78). -/
def execIaREnable1 (s : State) : Host.Outcome State Fault Refusal :=
  .next (s.answer (s.ia.enable .one))

/-- `IA.R.MASK0` (R122): returns the register; no recompute, no other effect (R78). -/
def execIaRMask0 (s : State) : Host.Outcome State Fault Refusal :=
  .next (s.answer (s.ia.mask .zero))

/-- `IA.R.MASK1` (R123): returns the register; no recompute, no other effect (R78). -/
def execIaRMask1 (s : State) : Host.Outcome State Fault Refusal :=
  .next (s.answer (s.ia.mask .one))

/-- `IA.R.UNDEF` (R124): a report, and the value 0. -/
def execIaRUndef (offset : Word) (s : State) : Host.Outcome State Fault Refusal :=
  undefAccess iaMap offset (.next ((s.report .ia .read offset).answer 0))

end Sys2Proof.Machine
end

