-- ==== Sys2Proof/Machine/IaWrites.lean ====
section
/-! DEFINITION. The IA's register writes (40_intc.md R125 to R134). -/

namespace Sys2Proof.Machine

/-- `IA.W.VECTOR` (R125): the value is ignored. -/
def execIaWVector (_value : Word) (s : State) : Host.Outcome State Fault Refusal :=
  .next s.recomputeIfIgnored

/-- `IA.W.BASE_ADDR` (R126). -/
def execIaWBaseAddr (value : Word) (s : State) : Host.Outcome State Fault Refusal :=
  .next (s.storeIa { s.ia with baseAddr := baseAddrField value })

/-- `IA.W.NMI_CTL` (R127). -/
def execIaWNmiCtl (value : Word) (s : State) : Host.Outcome State Fault Refusal :=
  .next (s.storeIa { s.ia with nmiCtl := value })

/-- `IA.W.PENDING0` (R128): stores the complement. -/
def execIaWPending0 (value : Word) (s : State) : Host.Outcome State Fault Refusal :=
  .next (s.storeIa (s.ia.setPending .zero (pendingField value)))

/-- `IA.W.PENDING1` (R129): stores the complement. -/
def execIaWPending1 (value : Word) (s : State) : Host.Outcome State Fault Refusal :=
  .next (s.storeIa (s.ia.setPending .one (pendingField value)))

/-- `IA.W.ENABLE0` (R130). -/
def execIaWEnable0 (value : Word) (s : State) : Host.Outcome State Fault Refusal :=
  .next (s.storeIa (s.ia.setEnable .zero value))

/-- `IA.W.ENABLE1` (R131). -/
def execIaWEnable1 (value : Word) (s : State) : Host.Outcome State Fault Refusal :=
  .next (s.storeIa (s.ia.setEnable .one value))

/-- `IA.W.MASK0` (R132). -/
def execIaWMask0 (value : Word) (s : State) : Host.Outcome State Fault Refusal :=
  .next (s.storeIa (s.ia.setMask .zero value))

/-- `IA.W.MASK1` (R133). -/
def execIaWMask1 (value : Word) (s : State) : Host.Outcome State Fault Refusal :=
  .next (s.storeIa (s.ia.setMask .one value))

/-- `IA.W.UNDEF` (R134): a report; the value is ignored. -/
def execIaWUndef (offset _value : Word) (s : State) : Host.Outcome State Fault Refusal :=
  undefAccess iaMap offset (.next (s.report .ia .write offset).recomputeIfIgnored)

end Sys2Proof.Machine
end

