-- ==== Sys2Proof/Machine/SpiReads.lean ====
section
/-! DEFINITION. The SPI's register reads (41_spi.md R160 to R171). -/

namespace Sys2Proof.Machine

/-- `SPI.R.GLB_CTL` (R160): 0. -/
def execSpiRGlbCtl (size : Byte) (s : State) : Host.Outcome State Fault Refusal :=
  spiAccess size s (s.answer 0)

/-- `SPI.R.TFR_CTL` (R161). -/
def execSpiRTfrCtl (size : Byte) (s : State) : Host.Outcome State Fault Refusal :=
  spiAccess size s s.tfrCtlRead

/-- `SPI.R.INT_CTL` (R162): 0, with no report. -/
def execSpiRIntCtl (size : Byte) (s : State) : Host.Outcome State Fault Refusal :=
  spiAccess size s (s.answer 0)

/-- `SPI.R.FIFO_CTL` (R163): 0, with no report. -/
def execSpiRFifoCtl (size : Byte) (s : State) : Host.Outcome State Fault Refusal :=
  spiAccess size s (s.answer 0)

/-- `SPI.R.FIFO_STA` (R164). -/
def execSpiRFifoSta (size : Byte) (s : State) : Host.Outcome State Fault Refusal :=
  spiAccess size s (s.answer (fifoStaWord s.spi.rxFifo.length s.spi.txFifo.length))

/-- `SPI.R.CLK_CTL` (R165): 0, with no report. -/
def execSpiRClkCtl (size : Byte) (s : State) : Host.Outcome State Fault Refusal :=
  spiAccess size s (s.answer 0)

/-- `SPI.R.BURST_CNT` (R166). -/
def execSpiRBurstCnt (size : Byte) (s : State) : Host.Outcome State Fault Refusal :=
  spiAccess size s (s.answer (counterWord s.spi.burstBytes))

/-- `SPI.R.SEND_CNT` (R167). -/
def execSpiRSendCnt (size : Byte) (s : State) : Host.Outcome State Fault Refusal :=
  spiAccess size s (s.answer (counterWord s.spi.sendBytes))

/-- `SPI.R.BURST_CTL` (R168): an alias of SEND_CNT. -/
def execSpiRBurstCtl (size : Byte) (s : State) : Host.Outcome State Fault Refusal :=
  spiAccess size s (s.answer (counterWord s.spi.sendBytes))

/-- `SPI.R.TXDATA` (R169): 0; the TX FIFO is not popped. -/
def execSpiRTxdata (size : Byte) (s : State) : Host.Outcome State Fault Refusal :=
  spiAccess size s (s.answer 0)

/-- `SPI.R.RXDATA` (R170): pops up to `size` bytes. -/
def execSpiRRxdata (size : Byte) (s : State) : Host.Outcome State Fault Refusal :=
  spiAccess size s (s.rxDataRead size)

/-- `SPI.R.UNDEF` (R171): a report, and the value 0. -/
def execSpiRUndef (offset : Word) (size : Byte) (s : State) : Host.Outcome State Fault Refusal :=
  undefAccess spiMap offset (spiAccess size s ((s.report .spi .read offset).answer 0))

end Sys2Proof.Machine
end

