-- ==== Sys2Proof/Machine/SpiWrites.lean ====
section
/-! DEFINITION. The SPI's register writes and system reset (41_spi.md R175 to R186, 70_reset_and_hazards.md R244). -/

namespace Sys2Proof.Machine

/-- `SPI.W.GLB_CTL` (R175): the soft reset if bit 31 is set. -/
def execSpiWGlbCtl (value : Word) (size : Byte) (s : State) : Host.Outcome State Fault Refusal :=
  spiAccess size s (if srstField value then s.spiReset else s)

/-- `SPI.W.TFR_CTL` (R176). -/
def execSpiWTfrCtl (value : Word) (size : Byte) (s : State) : Host.Outcome State Fault Refusal :=
  spiAccess size s (s.tfrCtlWrite value)

/-- `SPI.W.INT_CTL` (R177): no effect, and no report. -/
def execSpiWIntCtl (_value : Word) (size : Byte) (s : State) : Host.Outcome State Fault Refusal :=
  spiAccess size s s

/-- `SPI.W.FIFO_CTL` (R178). -/
def execSpiWFifoCtl (value : Word) (size : Byte) (s : State) : Host.Outcome State Fault Refusal :=
  spiAccess size s (s.fifoCtlWrite value)

/-- `SPI.W.FIFO_STA` (R179): no effect, and no report. -/
def execSpiWFifoSta (_value : Word) (size : Byte) (s : State) : Host.Outcome State Fault Refusal :=
  spiAccess size s s

/-- `SPI.W.CLK_CTL` (R180): no effect, and no report. -/
def execSpiWClkCtl (_value : Word) (size : Byte) (s : State) : Host.Outcome State Fault Refusal :=
  spiAccess size s s

/-- `SPI.W.BURST_CNT` (R181). -/
def execSpiWBurstCnt (value : Word) (size : Byte) (s : State) : Host.Outcome State Fault Refusal :=
  spiAccess size s (s.withSpi { s.spi with burstBytes := lowByteField value })

/-- `SPI.W.SEND_CNT` (R182). -/
def execSpiWSendCnt (value : Word) (size : Byte) (s : State) : Host.Outcome State Fault Refusal :=
  spiAccess size s (s.withSpi { s.spi with sendBytes := lowByteField value })

/-- `SPI.W.BURST_CTL` (R183): the same field as SEND_CNT. -/
def execSpiWBurstCtl (value : Word) (size : Byte) (s : State) : Host.Outcome State Fault Refusal :=
  spiAccess size s (s.withSpi { s.spi with sendBytes := lowByteField value })

/-- `SPI.W.TXDATA` (R184): one byte, at every size. -/
def execSpiWTxdata (value : Word) (size : Byte) (s : State) : Host.Outcome State Fault Refusal :=
  spiAccess size s (s.withSpi { s.spi with txFifo := fifoPush s.params.fifoDepth s.spi.txFifo (lowByteField value) })

/-- `SPI.W.RXDATA` (R185): no effect, and no report. -/
def execSpiWRxdata (_value : Word) (size : Byte) (s : State) : Host.Outcome State Fault Refusal :=
  spiAccess size s s

/-- `SPI.W.UNDEF` (R186): a report; the value is ignored. -/
def execSpiWUndef (offset _value : Word) (size : Byte) (s : State) : Host.Outcome State Fault Refusal :=
  undefAccess spiMap offset (spiAccess size s (s.report .spi .write offset))

/-- `SPI.RESET` (R244): the effect of a GLB_CTL write with bit 31 set. -/
def execSpiReset (s : State) : Host.Outcome State Fault Refusal :=
  spiBuilt s s.spiReset

end Sys2Proof.Machine
end

