-- ==== Sys2Proof/Machine/Dispatch.lean ====
section
/-! DEFINITION. exec: each request of the opcode table to its meaning. -/

namespace Sys2Proof.Machine

def exec (i : Instr) (s : State) : Host.Outcome State Fault Refusal :=
  match i with
  | .iaRVector => Sys2Proof.Machine.execIaRVector s
  | .iaRBaseAddr => Sys2Proof.Machine.execIaRBaseAddr s
  | .iaRNmiCtl => Sys2Proof.Machine.execIaRNmiCtl s
  | .iaRPending0 => Sys2Proof.Machine.execIaRPending0 s
  | .iaRPending1 => Sys2Proof.Machine.execIaRPending1 s
  | .iaREnable0 => Sys2Proof.Machine.execIaREnable0 s
  | .iaREnable1 => Sys2Proof.Machine.execIaREnable1 s
  | .iaRMask0 => Sys2Proof.Machine.execIaRMask0 s
  | .iaRMask1 => Sys2Proof.Machine.execIaRMask1 s
  | .iaRUndef offset => Sys2Proof.Machine.execIaRUndef offset s
  | .iaWVector value => Sys2Proof.Machine.execIaWVector value s
  | .iaWBaseAddr value => Sys2Proof.Machine.execIaWBaseAddr value s
  | .iaWNmiCtl value => Sys2Proof.Machine.execIaWNmiCtl value s
  | .iaWPending0 value => Sys2Proof.Machine.execIaWPending0 value s
  | .iaWPending1 value => Sys2Proof.Machine.execIaWPending1 value s
  | .iaWEnable0 value => Sys2Proof.Machine.execIaWEnable0 value s
  | .iaWEnable1 value => Sys2Proof.Machine.execIaWEnable1 value s
  | .iaWMask0 value => Sys2Proof.Machine.execIaWMask0 value s
  | .iaWMask1 value => Sys2Proof.Machine.execIaWMask1 value s
  | .iaWUndef offset value => Sys2Proof.Machine.execIaWUndef offset value s
  | .iaLine line level => Sys2Proof.Machine.execIaLine line level s
  | .iaReset => Sys2Proof.Machine.execIaReset s
  | .spiRGlbCtl size => Sys2Proof.Machine.execSpiRGlbCtl size s
  | .spiRTfrCtl size => Sys2Proof.Machine.execSpiRTfrCtl size s
  | .spiRIntCtl size => Sys2Proof.Machine.execSpiRIntCtl size s
  | .spiRFifoCtl size => Sys2Proof.Machine.execSpiRFifoCtl size s
  | .spiRFifoSta size => Sys2Proof.Machine.execSpiRFifoSta size s
  | .spiRClkCtl size => Sys2Proof.Machine.execSpiRClkCtl size s
  | .spiRBurstCnt size => Sys2Proof.Machine.execSpiRBurstCnt size s
  | .spiRSendCnt size => Sys2Proof.Machine.execSpiRSendCnt size s
  | .spiRBurstCtl size => Sys2Proof.Machine.execSpiRBurstCtl size s
  | .spiRTxdata size => Sys2Proof.Machine.execSpiRTxdata size s
  | .spiRRxdata size => Sys2Proof.Machine.execSpiRRxdata size s
  | .spiRUndef offset size => Sys2Proof.Machine.execSpiRUndef offset size s
  | .spiWGlbCtl value size => Sys2Proof.Machine.execSpiWGlbCtl value size s
  | .spiWTfrCtl value size => Sys2Proof.Machine.execSpiWTfrCtl value size s
  | .spiWIntCtl value size => Sys2Proof.Machine.execSpiWIntCtl value size s
  | .spiWFifoCtl value size => Sys2Proof.Machine.execSpiWFifoCtl value size s
  | .spiWFifoSta value size => Sys2Proof.Machine.execSpiWFifoSta value size s
  | .spiWClkCtl value size => Sys2Proof.Machine.execSpiWClkCtl value size s
  | .spiWBurstCnt value size => Sys2Proof.Machine.execSpiWBurstCnt value size s
  | .spiWSendCnt value size => Sys2Proof.Machine.execSpiWSendCnt value size s
  | .spiWBurstCtl value size => Sys2Proof.Machine.execSpiWBurstCtl value size s
  | .spiWTxdata value size => Sys2Proof.Machine.execSpiWTxdata value size s
  | .spiWRxdata value size => Sys2Proof.Machine.execSpiWRxdata value size s
  | .spiWUndef offset value size => Sys2Proof.Machine.execSpiWUndef offset value size s
  | .spiReset => Sys2Proof.Machine.execSpiReset s

end Sys2Proof.Machine
end

