-- ==== Sys2Proof/WellFormed.lean ====
section
/-! DEFINITION. The domain of the request operands (00_scope.md R16): what the interface states of a line
number, an access size, a narrow write's value and an undefined offset. -/

namespace Sys2Proof

/-- The IA's defined offsets (10_state.md R38, 20_memory.md R71). -/
def iaOffsets : List Word :=
  [0x00, 0x04, 0x0C, 0x10, 0x14, 0x20, 0x24, 0x30, 0x34]

/-- The SPI's defined offsets (10_state.md R45, 20_memory.md R71). -/
def spiOffsets : List Word :=
  [0x04, 0x08, 0x10, 0x18, 0x1C, 0x24, 0x30, 0x34, 0x38, 0x200, 0x300]

/-- `IA.LINE` takes lines 0 to 40 (R9, R114). -/
def wfLine (line : BitVec 6) : Bool := decide (line.toNat ≤ 40)

/-- An SPI access size is 1, 2, 3 or 4 (R10). -/
def wfSize (size : Byte) : Bool := decide (1 ≤ size.toNat ∧ size.toNat ≤ 4)

/-- The bus zero-extends a narrow write: value < 2^(8*size) (R77, a precondition of the request). -/
def wfValue (value : Word) (size : Byte) : Bool := decide (value.toNat < 2 ^ (8 * size.toNat))

/-- An undefined offset is one that is in no register map (R71, R72). -/
def wfIaUndef (offset : Word) : Bool := !iaOffsets.contains offset

/-- See `wfIaUndef`. -/
def wfSpiUndef (offset : Word) : Bool := !spiOffsets.contains offset

/-- The request lies in the interface's stated domain (R16, R77, R90). -/
def Instr.wf : Instr → Bool
  | .iaRVector => true
  | .iaRBaseAddr => true
  | .iaRNmiCtl => true
  | .iaRPending0 => true
  | .iaRPending1 => true
  | .iaREnable0 => true
  | .iaREnable1 => true
  | .iaRMask0 => true
  | .iaRMask1 => true
  | .iaRUndef off => wfIaUndef off
  | .iaWVector _ => true
  | .iaWBaseAddr _ => true
  | .iaWNmiCtl _ => true
  | .iaWPending0 _ => true
  | .iaWPending1 _ => true
  | .iaWEnable0 _ => true
  | .iaWEnable1 _ => true
  | .iaWMask0 _ => true
  | .iaWMask1 _ => true
  | .iaWUndef off _ => wfIaUndef off
  | .iaLine line _ => wfLine line
  | .iaReset => true
  | .spiRGlbCtl size => wfSize size
  | .spiRTfrCtl size => wfSize size
  | .spiRIntCtl size => wfSize size
  | .spiRFifoCtl size => wfSize size
  | .spiRFifoSta size => wfSize size
  | .spiRClkCtl size => wfSize size
  | .spiRBurstCnt size => wfSize size
  | .spiRSendCnt size => wfSize size
  | .spiRBurstCtl size => wfSize size
  | .spiRTxdata size => wfSize size
  | .spiRRxdata size => wfSize size
  | .spiRUndef off size => wfSpiUndef off && wfSize size
  | .spiWGlbCtl value size => wfSize size && wfValue value size
  | .spiWTfrCtl value size => wfSize size && wfValue value size
  | .spiWIntCtl value size => wfSize size && wfValue value size
  | .spiWFifoCtl value size => wfSize size && wfValue value size
  | .spiWFifoSta value size => wfSize size && wfValue value size
  | .spiWClkCtl value size => wfSize size && wfValue value size
  | .spiWBurstCnt value size => wfSize size && wfValue value size
  | .spiWSendCnt value size => wfSize size && wfValue value size
  | .spiWBurstCtl value size => wfSize size && wfValue value size
  | .spiWTxdata value size => wfSize size && wfValue value size
  | .spiWRxdata value size => wfSize size && wfValue value size
  | .spiWUndef off value size => wfSpiUndef off && wfSize size && wfValue value size
  | .spiReset => true

end Sys2Proof
end

