-- ==== Sys2Proof/Decode.lean ====
section
/-! DEFINITION. The decoder of request packets (30_encoding.md R91 to R98), total and rejecting by name, and
after it the encoder. -/

namespace Sys2Proof

/-- Bits 30:28 of a descriptor, the kind (R91). -/
def Packet.kind (p : Packet) : BitVec 3 := p.desc.extractLsb' 28 3

/-- Bit 31 of a descriptor, the unit (R91). -/
def Packet.block (p : Packet) : Block := if p.desc.getLsbD 31 then .spi else .ia

/-- The byte offset of a READ or WRITE, all 32 bits of it (R71, R91). -/
def Packet.offset (p : Packet) : Word := (p.offHi.setWidth 32 <<< 28) ||| (p.desc &&& 0x0FFFFFFF)

/-- The access size beside the descriptor (log entry 1). -/
def Packet.size (p : Packet) : Byte := p.sizeLane + 1

/-- The exact rows of the IA's reads (R96). -/
def iaReadRows : List (Word × Instr) :=
  [ (0x00000000, .iaRVector)
  , (0x00000004, .iaRBaseAddr)
  , (0x0000000C, .iaRNmiCtl)
  , (0x00000010, .iaRPending0)
  , (0x00000014, .iaRPending1)
  , (0x00000020, .iaREnable0)
  , (0x00000024, .iaREnable1)
  , (0x00000030, .iaRMask0)
  , (0x00000034, .iaRMask1) ]

/-- The exact rows of the IA's writes (R96). -/
def iaWriteRows (value : Word) : List (Word × Instr) :=
  [ (0x10000000, .iaWVector value)
  , (0x10000004, .iaWBaseAddr value)
  , (0x1000000C, .iaWNmiCtl value)
  , (0x10000010, .iaWPending0 value)
  , (0x10000014, .iaWPending1 value)
  , (0x10000020, .iaWEnable0 value)
  , (0x10000024, .iaWEnable1 value)
  , (0x10000030, .iaWMask0 value)
  , (0x10000034, .iaWMask1 value) ]

/-- The exact rows of the SPI's reads (R97). -/
def spiReadRows (size : Byte) : List (Word × Instr) :=
  [ (0x80000004, .spiRGlbCtl size)
  , (0x80000008, .spiRTfrCtl size)
  , (0x80000010, .spiRIntCtl size)
  , (0x80000018, .spiRFifoCtl size)
  , (0x8000001C, .spiRFifoSta size)
  , (0x80000024, .spiRClkCtl size)
  , (0x80000030, .spiRBurstCnt size)
  , (0x80000034, .spiRSendCnt size)
  , (0x80000038, .spiRBurstCtl size)
  , (0x80000200, .spiRTxdata size)
  , (0x80000300, .spiRRxdata size) ]

/-- The exact rows of the SPI's writes (R97). -/
def spiWriteRows (value : Word) (size : Byte) : List (Word × Instr) :=
  [ (0x90000004, .spiWGlbCtl value size)
  , (0x90000008, .spiWTfrCtl value size)
  , (0x90000010, .spiWIntCtl value size)
  , (0x90000018, .spiWFifoCtl value size)
  , (0x9000001C, .spiWFifoSta value size)
  , (0x90000024, .spiWClkCtl value size)
  , (0x90000030, .spiWBurstCnt value size)
  , (0x90000034, .spiWSendCnt value size)
  , (0x90000038, .spiWBurstCtl value size)
  , (0x90000200, .spiWTxdata value size)
  , (0x90000300, .spiWRxdata value size) ]

/-- The two reset rows (R93, R96, R97). -/
def resetRows : List (Word × Instr) :=
  [ (0x30000000, .iaReset), (0xB0000000, .spiReset) ]

/-- Every row with the mask 0xFFFFFFFF (R96, R97), with its operands filled in. -/
def exactRows (value : Word) (size : Byte) : List (Word × Instr) :=
  iaReadRows ++ (iaWriteRows value ++ (spiReadRows size ++ (spiWriteRows value size ++ resetRows)))

/-- First leg of R98: the exact row the packet matches. An offset of 2^28 or more matches none (R91). The reset
rows have no offset; that a non-zero offset lane matches none of them is a DESIGN CHOICE, safe (log entry 20). -/
def decodeExact (p : Packet) : Option Instr :=
  if p.offHi = 0 then (exactRows p.value p.size).lookup p.desc else none

/-- Second leg of R98: the IA.LINE row, mask 0xFFFFFEC0 (R92). LINE has no offset; that a non-zero offset lane
does not match is a DESIGN CHOICE, safe (log entry 20). -/
def decodeLine (p : Packet) : Option Instr :=
  if p.offHi = 0 ∧ p.desc &&& 0xFFFFFEC0 = 0x20000000 then
    some (.iaLine (p.desc.extractLsb' 0 6) (p.desc.getLsbD 8))
  else none

/-- Third leg of R98: the fallback rows, mask 0xF0000000. -/
def decodeFallback (p : Packet) : Option Instr :=
  if p.desc &&& 0xF0000000 = 0x00000000 then some (.iaRUndef p.offset)
  else if p.desc &&& 0xF0000000 = 0x10000000 then some (.iaWUndef p.offset p.value)
  else if p.desc &&& 0xF0000000 = 0x80000000 then some (.spiRUndef p.offset p.size)
  else if p.desc &&& 0xF0000000 = 0x90000000 then some (.spiWUndef p.offset p.value p.size)
  else none

/-- Why a packet that no row matches is refused (R91 to R93). A non-zero offset lane beside a LINE or RESET
descriptor goes under the names of their reserved bits: a DESIGN CHOICE, safe (log entry 20). -/
def decodeReason (p : Packet) : DecodeError :=
  if p.kind = 2 then (if p.desc.getLsbD 31 then .lineToSpi else .lineReservedBits)
  else if p.kind = 3 then .resetReservedBits
  else .noSuchKind p.kind

/-- The decode procedure (R98), and before it the refusal of a request issued during a burst (R88). -/
def decode (p : Packet) : Except DecodeError Instr :=
  if p.nested then .error .nestedRequest
  else match decodeExact p with
    | some i => .ok i
    | none => match decodeLine p with
      | some i => .ok i
      | none => match decodeFallback p with
        | some i => .ok i
        | none => .error (decodeReason p)

/-- A packet with nothing beside its descriptor. -/
def bare (desc : Word) : Packet :=
  { desc := desc, value := 0, sizeLane := 0, offHi := 0, nested := false }

/-- The packet's size lane for an access size. -/
def Packet.withSize (p : Packet) (size : Byte) : Packet := { p with sizeLane := size - 1 }

/-- The packet with a write's value beside it. -/
def Packet.withValue (p : Packet) (value : Word) : Packet := { p with value := value }

/-- A READ or WRITE packet by unit-and-kind bits and byte offset (R91). -/
def atOffset (unitKind : Word) (offset : Word) : Packet :=
  { bare (unitKind ||| (offset &&& 0x0FFFFFFF)) with offHi := offset.extractLsb' 28 4 }

/-- The packet of a request, from the tables of R96 and R97. -/
def encode : Instr → Packet
  | .iaRVector => bare 0x00000000
  | .iaRBaseAddr => bare 0x00000004
  | .iaRNmiCtl => bare 0x0000000C
  | .iaRPending0 => bare 0x00000010
  | .iaRPending1 => bare 0x00000014
  | .iaREnable0 => bare 0x00000020
  | .iaREnable1 => bare 0x00000024
  | .iaRMask0 => bare 0x00000030
  | .iaRMask1 => bare 0x00000034
  | .iaRUndef off => atOffset 0x00000000 off
  | .iaWVector value => (bare 0x10000000).withValue value
  | .iaWBaseAddr value => (bare 0x10000004).withValue value
  | .iaWNmiCtl value => (bare 0x1000000C).withValue value
  | .iaWPending0 value => (bare 0x10000010).withValue value
  | .iaWPending1 value => (bare 0x10000014).withValue value
  | .iaWEnable0 value => (bare 0x10000020).withValue value
  | .iaWEnable1 value => (bare 0x10000024).withValue value
  | .iaWMask0 value => (bare 0x10000030).withValue value
  | .iaWMask1 value => (bare 0x10000034).withValue value
  | .iaWUndef off value => (atOffset 0x10000000 off).withValue value
  | .iaLine line level =>
    bare ((0x20000000 : Word) ||| ((BitVec.ofBool level).setWidth 32 <<< 8 : Word) ||| (line.setWidth 32 : Word))
  | .iaReset => bare 0x30000000
  | .spiRGlbCtl size => (bare 0x80000004).withSize size
  | .spiRTfrCtl size => (bare 0x80000008).withSize size
  | .spiRIntCtl size => (bare 0x80000010).withSize size
  | .spiRFifoCtl size => (bare 0x80000018).withSize size
  | .spiRFifoSta size => (bare 0x8000001C).withSize size
  | .spiRClkCtl size => (bare 0x80000024).withSize size
  | .spiRBurstCnt size => (bare 0x80000030).withSize size
  | .spiRSendCnt size => (bare 0x80000034).withSize size
  | .spiRBurstCtl size => (bare 0x80000038).withSize size
  | .spiRTxdata size => (bare 0x80000200).withSize size
  | .spiRRxdata size => (bare 0x80000300).withSize size
  | .spiRUndef off size => (atOffset 0x80000000 off).withSize size
  | .spiWGlbCtl value size => ((bare 0x90000004).withValue value).withSize size
  | .spiWTfrCtl value size => ((bare 0x90000008).withValue value).withSize size
  | .spiWIntCtl value size => ((bare 0x90000010).withValue value).withSize size
  | .spiWFifoCtl value size => ((bare 0x90000018).withValue value).withSize size
  | .spiWFifoSta value size => ((bare 0x9000001C).withValue value).withSize size
  | .spiWClkCtl value size => ((bare 0x90000024).withValue value).withSize size
  | .spiWBurstCnt value size => ((bare 0x90000030).withValue value).withSize size
  | .spiWSendCnt value size => ((bare 0x90000034).withValue value).withSize size
  | .spiWBurstCtl value size => ((bare 0x90000038).withValue value).withSize size
  | .spiWTxdata value size => ((bare 0x90000200).withValue value).withSize size
  | .spiWRxdata value size => ((bare 0x90000300).withValue value).withSize size
  | .spiWUndef off value size => ((atOffset 0x90000000 off).withValue value).withSize size
  | .spiReset => bare 0xB0000000

/-- A packet from its bits: descriptor 31..0, value 63..32, size lane 71..64, high offset bits 75..72, and bit
76 for a nested request. -/
def Packet.ofBits (w : Nat) : Packet :=
  { desc := BitVec.ofNat 32 w
    value := BitVec.ofNat 32 (w >>> 32)
    sizeLane := BitVec.ofNat 8 (w >>> 64)
    offHi := BitVec.ofNat 4 (w >>> 72)
    nested := w.testBit 76 }

/-- The request the decoder reads from the low `nbits` bits of `w`, every other bit 0. -/
def decodeTableWord (nbits w : Nat) : Option Instr :=
  match decode (Packet.ofBits (w % 2 ^ nbits)) with
  | .ok i => some i
  | .error _ => none

/-- The base address of a block's window, a platform parameter (20_memory.md R70). -/
def baseOf : Block → Word
  | .ia => Config.baseIa
  | .spi => Config.baseSpi

/-- `MemRead(addr, n)` of the host is the request READ(offset, n) with addr = base + offset (R15, R70). -/
def busRead (b : Block) (addr : Word) (size : Byte) : Packet :=
  (atOffset (match b with | .ia => 0x00000000 | .spi => 0x80000000) (addr - baseOf b)).withSize size

/-- `MemWrite(addr, n, v)` of the host is the request WRITE(offset, v, n) (R15, R70). -/
def busWrite (b : Block) (addr : Word) (value : Word) (size : Byte) : Packet :=
  ((atOffset (match b with | .ia => 0x10000000 | .spi => 0x90000000) (addr - baseOf b)).withValue value).withSize size

/-- Byte `k` of a register value where a bus presents it as bytes: little-endian lanes (R73). -/
def busByte (v : Word) (k : Nat) : Byte := v.extractLsb' (8 * k) 8

end Sys2Proof
end

