-- ==== Sys2Proof/Machine/Fetch.lean ====
section
/-! DEFINITION. Taking the next request of the serialized order (00_scope.md R8, R54, R82): the blocks fetch no
program (R86). -/

namespace Sys2Proof.Machine

/-- What a step finds at the head of the order of requests. -/
inductive Fetched where
  /-- no request has come -/
  | idle
  /-- the packet names no request (R16) -/
  | rejected (why : DecodeError)
  /-- the request i, in the state its meaning runs in -/
  | request (i : Instr) (s : State)
deriving DecidableEq, Repr

/-- The output of the latest request is gone (log entry 4): the event list and the result are a step's own
(R11). -/
def State.quiet (s : State) : State := { s with events := [], result := none }

/-- The state a request runs in: the request taken from the order, nothing output yet. -/
def State.begun (s : State) (rest : List Packet) : State := { s.quiet with inputs := rest }

/-- The next request of the order (R82, R98). -/
def fetch (s : State) : Fetched :=
  match s.inputs with
  | [] => .idle
  | p :: rest =>
    match decode p with
    | .ok i => .request i (s.begun rest)
    | .error why => .rejected why

/-- A packet put at the head of the order. -/
def State.pushInput (s : State) (p : Packet) : State := { s with inputs := p :: s.inputs }

end Sys2Proof.Machine
end

