-- ==== Sys2Proof/Machine/Step.lean ====
section
/-! DEFINITION. One step: one request of the serialized order, whole (00_scope.md R4, 20_memory.md R81). -/

namespace Sys2Proof.Machine

/-- The next request runs to completion; with none to come the blocks do nothing of their own (R54, R226). -/
def step (s : State) : Host.Outcome State Fault Refusal :=
  match fetch s with
  | .idle => .next s.quiet
  | .rejected why => .refused (.noRequest why)
  | .request i t => exec i t

/-- `s` with the request of the low `nbits` bits of `w`, every other bit 0, as the next to come. -/
def State.withFetchWord (s : State) (nbits w : Nat) : State :=
  s.pushInput (Packet.ofBits (w % 2 ^ nbits))

end Sys2Proof.Machine
end

