-- ==== Sys2Proof/Safety.lean ====
section
/-! DEFINITION. The terms the claims use: the lines that take part in arbitration, what a recompute leaves, the
bytes and events of a burst, and the invariants of the machine. -/

namespace Sys2Proof.Machine

/-! Lines and arbitration -/

/-- Bit n mod 32 of bank n div 32 of a pair of bank words, for a line n in 0..63 (R30). -/
def lineFlag (w0 w1 : Word) (n : Nat) : Bool := if n < 32 then w0.getLsbD n else w1.getLsbD (n - 32)

/-- Line n takes part in arbitration: pending and enabled and not masked (R216). -/
def Ia.candidate (a : Ia) (n : Nat) : Bool :=
  lineFlag a.pending0 a.pending1 n && lineFlag a.enable0 a.enable1 n && !lineFlag a.mask0 a.mask1 n

/-- Line n is the lowest-numbered candidate (R219). -/
def Ia.Lowest (a : Ia) (n : Nat) : Prop :=
  n < 64 ∧ a.candidate n = true ∧ ∀ m, m < n → a.candidate m = false

/-- No line is a candidate. -/
def Ia.NoCandidate (a : Ia) : Prop := ∀ n, n < 64 → a.candidate n = false

/-- `b` is what a recompute leaves of the registers `a`, said by line numbers (R110 to R113, R135). -/
def Ia.AfterRecompute (a b : Ia) : Prop :=
  b.enable0 = a.enable0 ∧ b.enable1 = a.enable1 ∧ b.mask0 = a.mask0 ∧ b.mask1 = a.mask1 ∧
  b.baseAddr = a.baseAddr ∧ b.nmiCtl = a.nmiCtl ∧
  b.irqOut = decide (b.vector ≠ 0) ∧
  (∀ n, a.Lowest n → b.vector = BitVec.ofNat 32 (4 * n) ∧
    b.pending0 = (if n < 32 then 0xFFFFFFFF else a.pending0) ∧
    b.pending1 = (if n < 32 then a.pending1 else 0xFFFFFFFF)) ∧
  (a.NoCandidate → b.vector = 0 ∧ b.pending0 = a.pending0 ∧ b.pending1 = a.pending1)

/-- The request runs, emits the events `before`, then recomputes the registers `a`; nothing else changes. -/
def CompletesRecomputing (i : Instr) (s : State) (a : Ia) (before : List Event) : Prop :=
  ∃ b, a.AfterRecompute b ∧
    exec i s = .next { s with ia := b, events := s.events ++ before ++ [.irq b.irqOut] }

/-! Bursts -/

/-- The device's answers to a sequence of bytes, in order, and the state it ends in (R83, R150). -/
def deviceRun : Downstream → List Byte → List Byte × Downstream
  | d, [] => ([], d)
  | d, b :: rest =>
    ((deviceXfer d b).1 :: (deviceRun (deviceXfer d b).2 rest).1, (deviceRun (deviceXfer d b).2 rest).2)

/-- `k = min(S, N, len(T))` of R154. -/
def burstTaken (q : Spi) : Nat := min (min q.sendBytes.toNat q.burstBytes.toNat) q.txFifo.length

/-- The outgoing bytes of a burst (R154). -/
def burstOut (q : Spi) : List Byte :=
  q.txFifo.take (burstTaken q) ++ List.replicate (q.burstBytes.toNat - burstTaken q) 0xFF

/-- The answers of a burst. -/
def burstIn (q : Spi) (d : Downstream) : List Byte := (deviceRun d (burstOut q)).1

/-- The RX FIFO after a burst: the first answers, as many as fit (R154). -/
def burstRx (depth : Nat) (q : Spi) (d : Downstream) : List Byte :=
  q.rxFifo ++ (burstIn q d).take (depth - q.rxFifo.length)

/-- Whether an event is a downstream exchange `XFER(out, in)` (R11). -/
def Event.isXfer : Event → Bool
  | .xfer _ _ => true
  | .irq _ => false
  | .cs _ _ => false
  | .diag _ _ _ => false

/-- One `XFER` event an exchange, in order (R154). -/
def burstEvents (q : Spi) (d : Downstream) : List Event := List.zipWith Event.xfer (burstOut q) (burstIn q d)

/-- The events of an actioned protocol call for line n (R151). -/
def csEvents (n : BitVec 2) (level : Bool) : List Event :=
  [.cs 0 true, .cs 1 true, .cs 2 true, .cs 3 true, .cs n level]

/-- The line levels an actioned protocol call for line n leaves (R152). -/
def csLevels (n : BitVec 2) (level : Bool) : Vector Bool 4 :=
  (Vector.replicate 4 true).set n.toNat level n.isLt

/-- The chip-select registers after `update_cs(n, level)` (R151). -/
def Spi.afterCs (q : Spi) (n : BitVec 2) (level : Bool) : Spi :=
  if some n = q.csIndex ∧ level = q.csLevel then q
  else { q with csIndex := some n, csLevel := level, csLine := csLevels n level }

/-- The events of `update_cs(n, level)` (R151). -/
def Spi.eventsCs (q : Spi) (n : BitVec 2) (level : Bool) : List Event :=
  if some n = q.csIndex ∧ level = q.csLevel then [] else csEvents n level

/-- The access size an SPI register access carries. -/
def accessSize : Instr → Option Byte
  | .iaRVector => none
  | .iaRBaseAddr => none
  | .iaRNmiCtl => none
  | .iaRPending0 => none
  | .iaRPending1 => none
  | .iaREnable0 => none
  | .iaREnable1 => none
  | .iaRMask0 => none
  | .iaRMask1 => none
  | .iaRUndef _ => none
  | .iaWVector _ => none
  | .iaWBaseAddr _ => none
  | .iaWNmiCtl _ => none
  | .iaWPending0 _ => none
  | .iaWPending1 _ => none
  | .iaWEnable0 _ => none
  | .iaWEnable1 _ => none
  | .iaWMask0 _ => none
  | .iaWMask1 _ => none
  | .iaWUndef _ _ => none
  | .iaLine _ _ => none
  | .iaReset => none
  | .spiRGlbCtl size => some size
  | .spiRTfrCtl size => some size
  | .spiRIntCtl size => some size
  | .spiRFifoCtl size => some size
  | .spiRFifoSta size => some size
  | .spiRClkCtl size => some size
  | .spiRBurstCnt size => some size
  | .spiRSendCnt size => some size
  | .spiRBurstCtl size => some size
  | .spiRTxdata size => some size
  | .spiRRxdata size => some size
  | .spiRUndef _ size => some size
  | .spiWGlbCtl _ size => some size
  | .spiWTfrCtl _ size => some size
  | .spiWIntCtl _ size => some size
  | .spiWFifoCtl _ size => some size
  | .spiWFifoSta _ size => some size
  | .spiWClkCtl _ size => some size
  | .spiWBurstCnt _ size => some size
  | .spiWSendCnt _ size => some size
  | .spiWBurstCtl _ size => some size
  | .spiWTxdata _ size => some size
  | .spiWRxdata _ size => some size
  | .spiWUndef _ _ size => some size
  | .spiReset => none

/-! Invariants -/

/-- The IA's derived facts: base_addr a multiple of 4 (R34), vector a multiple of 4 in 0..252 (R33), the output
asserted exactly for a non-zero vector (R36). -/
def Ia.Inv (a : Ia) : Prop :=
  a.baseAddr.toNat % 4 = 0 ∧ a.vector.toNat % 4 = 0 ∧ a.vector.toNat ≤ 252 ∧
    a.irqOut = decide (a.vector ≠ 0)

/-- The SPI's derived facts: the FIFOs within their capacity (R40), cs_index never -1 (R41), start_burst clear
between steps (R43). -/
def Spi.Inv (depth : Nat) (q : Spi) : Prop :=
  q.txFifo.length ≤ depth ∧ q.rxFifo.length ≤ depth ∧ q.csIndex ≠ none ∧ q.startBurst = false

/-- The invariant of both blocks. -/
def State.Inv (s : State) : Prop := s.ia.Inv ∧ s.spi.Inv s.params.fifoDepth

/-- No two chip-select lines are low (R152). -/
def Spi.AtMostOneLow (q : Spi) : Prop :=
  ∀ m n : Fin 4, q.csLine[m] = false → q.csLine[n] = false → m = n

/-- The lines are the ones the chip-select registers say: the selected line at cs_level, the others high (R152;
it can fail only after a `Literal` reset, R261). -/
def Spi.LinesFollow (q : Spi) : Prop := ∃ n, q.csIndex = some n ∧ q.csLine = csLevels n q.csLevel

end Sys2Proof.Machine
end

