-- ==== Sys2Proof/Certificates/Slice0/Obligations.lean ====
section
/-! DEFINITION. The statements for the provers, file by file of spec/. -/

open Sys2Proof Sys2Proof.Machine

/-! Requests and their encoding (30_encoding.md) -/

/-- A few descriptors written out from R96, R97 and the L3 programs decode to the requests they stand for. The lanes
above the descriptor are the model's choice (log entry 1). -/
def Obligations.DescriptorsDecodeToTheirRequests : Prop :=
  decodeTableWord 32 0x0000000C = some .iaRNmiCtl ∧
  decodeTableWord 64 0x0000006010000020 = some (.iaWEnable0 0x60) ∧
  decodeTableWord 32 0x20000120 = some (.iaLine 32 true) ∧
  decodeTableWord 32 0x30000000 = some .iaReset ∧
  decodeTableWord 72 0x030000000080000300 = some (.spiRRxdata 4) ∧
  decodeTableWord 72 0x038000009090000008 = some (.spiWTfrCtl 0x80000090 4) ∧
  decodeTableWord 72 0x00000000809000000B = some (.spiWUndef 0x0B 0x80 1) ∧
  decodeTableWord 32 0xB0000000 = some .spiReset

/-- The packet of every request in the interface's domain decodes to that request, whatever its operands. The
packet's lanes beside the descriptor are the model's choice (log entry 1). -/
def Obligations.DecodeOfEncodeIsTheRequest : Prop :=
  ∀ i : Instr, i.wf = true → decode (encode i) = .ok i

/-- A packet that decodes has the descriptor and the lane of offset bits 31:28 that its request encodes to. The lane
is the model's choice (log entry 1), and so is that no LINE or RESET packet with a non-zero lane decodes (log entry
20). -/
def Obligations.DecodedRequestHasItsDescriptor : Prop :=
  ∀ (p : Packet) (i : Instr), decode p = .ok i → (encode i).desc = p.desc ∧ (encode i).offHi = p.offHi

/-- A READ or WRITE at an offset outside the register map, of all 32 bits, is the undefined-offset request of
its unit and kind, with that offset (R71, R72, R91, R98). The lane of offset bits 31:28 and the origin mark are the
model's choice (log entries 1 and 16). -/
def Obligations.UndefinedOffsetsDecodeToTheFallbackRows : Prop :=
  ∀ p : Packet, p.nested = false →
    (p.block = .ia → p.kind = 0 → p.offset ∉ iaOffsets → decode p = .ok (.iaRUndef p.offset)) ∧
    (p.block = .ia → p.kind = 1 → p.offset ∉ iaOffsets → decode p = .ok (.iaWUndef p.offset p.value)) ∧
    (p.block = .spi → p.kind = 0 → p.offset ∉ spiOffsets → decode p = .ok (.spiRUndef p.offset p.size)) ∧
    (p.block = .spi → p.kind = 1 → p.offset ∉ spiOffsets →
      decode p = .ok (.spiWUndef p.offset p.value p.size))

/-- A step at a reserved descriptor is refused by name: a kind of 100 to 111 (R91), a LINE descriptor with U = 1
or a reserved bit set (R92), a RESET descriptor with one of bits 27:0 set (R93). The order of requests in State
is the model's choice (log entry 2). -/
def Obligations.ReservedDescriptorsAreRefused : Prop :=
  ∀ (s : State) (p : Packet) (rest : List Packet), s.inputs = p :: rest → p.nested = false →
    (4 ≤ p.kind.toNat → step s = .refused (.noRequest (.noSuchKind p.kind))) ∧
    (p.kind = 2 → p.block = .spi → step s = .refused (.noRequest .lineToSpi)) ∧
    (p.kind = 2 → p.block = .ia → p.desc &&& 0x0FFFFEC0 ≠ 0 →
      step s = .refused (.noRequest .lineReservedBits)) ∧
    (p.kind = 3 → p.desc &&& 0x0FFFFFFF ≠ 0 → step s = .refused (.noRequest .resetReservedBits))

/-- A request the downstream device issues during its own `xfer` call is refused (R88). The mark that says where a
request comes from is the model's choice (log entry 16). -/
def Obligations.RequestDuringTransferIsRefused : Prop :=
  ∀ (s : State) (p : Packet) (rest : List Packet), s.inputs = p :: rest → p.nested = true →
    step s = .refused (.noRequest .nestedRequest)

/-! Steps (00_scope.md, 20_memory.md) -/

/-- A step at a packet that decodes runs the request, in the state with the packet taken from the order and the
latest request's output gone (log entries 2 and 4). -/
def Obligations.StepRunsTheDecodedRequest : Prop :=
  ∀ (s : State) (p : Packet) (rest : List Packet) (i : Instr), s.inputs = p :: rest → decode p = .ok i →
    step s = exec i { s with inputs := rest, events := [], result := none }

/-- With no request to come a step changes nothing but the output of the latest request, which is gone: the
model's choice (log entries 3 and 4). -/
def Obligations.StepWithoutRequestIsIdle : Prop :=
  ∀ s : State, s.inputs = [] → step s = .next { s with events := [], result := none }

/-- Every request in the interface's domain completes (R210), where the SPI could be built (decision D22). -/
def Obligations.EveryRequestCompletes : Prop :=
  ∀ (i : Instr) (s : State), i.wf = true → 1 ≤ s.params.fifoDepth → ∃ t, exec i s = .next t

/-- A request of one block leaves the other block's state, and an IA request the downstream device too (R3,
R245). -/
def Obligations.BlocksAreIndependent : Prop :=
  ∀ (i : Instr) (s t : State), exec i s = .next t →
    (i.block = .ia → t.spi = s.spi ∧ t.device = s.device) ∧ (i.block = .spi → t.ia = s.ia)

/-- No request changes a construction parameter (R58, R240, R245) or the order of requests to come; that State holds
this order (R8, R82) is the model's choice (log entry 2). -/
def Obligations.RequestsKeepParametersAndOrder : Prop :=
  ∀ (i : Instr) (s t : State), exec i s = .next t → t.params = s.params ∧ t.inputs = s.inputs

/-- Only a TFR_CTL write with bit 31 set calls the downstream device (R150). That such a write of fewer than four
bytes, which R77 delivers none of, may do so is the model's choice (log entry 19). -/
def Obligations.OnlyABurstCallsTheDevice : Prop :=
  ∀ (i : Instr) (s t : State), exec i s = .next t →
    (∀ value size, i = .spiWTfrCtl value size → value.getLsbD 31 = false) →
    t.device = s.device ∧ ∀ o a, Event.xfer o a ∈ t.events → Event.xfer o a ∈ s.events

/-- Events are appended in order, never removed (R11). -/
def Obligations.RequestsOnlyAppendEvents : Prop :=
  ∀ (i : Instr) (s t : State), exec i s = .next t → s.events <+: t.events

/-- From an empty event list, a request's events hold the report DIAG(unit, dir, offset) exactly when it is the
undefined-offset request of that unit, direction and offset (R99, R211). -/
def Obligations.ReportsExactlyAtUndefinedOffsets : Prop :=
  ∀ (i : Instr) (s t : State) (u : Block) (d : Dir) (off : Word), exec i s = .next t → s.events = [] →
    (Event.diag u d off ∈ t.events ↔
      (u = .ia ∧ d = .read ∧ i = .iaRUndef off) ∨
      (u = .ia ∧ d = .write ∧ ∃ v, i = .iaWUndef off v) ∨
      (u = .spi ∧ d = .read ∧ ∃ n, i = .spiRUndef off n) ∨
      (u = .spi ∧ d = .write ∧ ∃ v n, i = .spiWUndef off v n))

/-- An access size changes nothing but the RXDATA read (R76): at two sizes in 1..4 the same access has the same
outcome. A write value that does not fit its size (R77 delivers none) runs as given: the model's choice (log entry
19). -/
def Obligations.SizeChangesOnlyTheRxdataRead : Prop :=
  ∀ (s : State) (m n : Byte) (v off : Word), wfSize m = true → wfSize n = true →
    exec (.spiRGlbCtl m) s = exec (.spiRGlbCtl n) s ∧ exec (.spiRTfrCtl m) s = exec (.spiRTfrCtl n) s ∧
    exec (.spiRIntCtl m) s = exec (.spiRIntCtl n) s ∧ exec (.spiRFifoCtl m) s = exec (.spiRFifoCtl n) s ∧
    exec (.spiRFifoSta m) s = exec (.spiRFifoSta n) s ∧ exec (.spiRClkCtl m) s = exec (.spiRClkCtl n) s ∧
    exec (.spiRBurstCnt m) s = exec (.spiRBurstCnt n) s ∧ exec (.spiRSendCnt m) s = exec (.spiRSendCnt n) s ∧
    exec (.spiRBurstCtl m) s = exec (.spiRBurstCtl n) s ∧ exec (.spiRTxdata m) s = exec (.spiRTxdata n) s ∧
    exec (.spiRUndef off m) s = exec (.spiRUndef off n) s ∧
    exec (.spiWGlbCtl v m) s = exec (.spiWGlbCtl v n) s ∧ exec (.spiWTfrCtl v m) s = exec (.spiWTfrCtl v n) s ∧
    exec (.spiWIntCtl v m) s = exec (.spiWIntCtl v n) s ∧
    exec (.spiWFifoCtl v m) s = exec (.spiWFifoCtl v n) s ∧
    exec (.spiWFifoSta v m) s = exec (.spiWFifoSta v n) s ∧ exec (.spiWClkCtl v m) s = exec (.spiWClkCtl v n) s ∧
    exec (.spiWBurstCnt v m) s = exec (.spiWBurstCnt v n) s ∧
    exec (.spiWSendCnt v m) s = exec (.spiWSendCnt v n) s ∧
    exec (.spiWBurstCtl v m) s = exec (.spiWBurstCtl v n) s ∧
    exec (.spiWTxdata v m) s = exec (.spiWTxdata v n) s ∧ exec (.spiWRxdata v m) s = exec (.spiWRxdata v n) s ∧
    exec (.spiWUndef off v m) s = exec (.spiWUndef off v n) s

/-- An SPI register access with a size outside 1..4 is refused (R16, R76). -/
def Obligations.SizesOutsideOneToFourAreRefused : Prop :=
  ∀ (i : Instr) (s : State) (n : Byte), accessSize i = some n → (n = 0 ∨ 4 < n.toNat) →
    (∀ off m, i = .spiRUndef off m → off ∉ spiOffsets) →
    (∀ off v m, i = .spiWUndef off v m → off ∉ spiOffsets) →
    exec i s = .refused (.sizeOutOfRange n)

/-- An SPI built with FIFO depth 0 is refused at its first request, whatever the request (decision D22, log
entry 6). -/
def Obligations.DepthZeroIsRefused : Prop :=
  ∀ (i : Instr) (s : State), i.block = .spi → i.wf = true → s.params.fifoDepth = 0 →
    exec i s = .refused .fifoDepthZero

/-! The InterruptAggregator (40_intc.md) -/

/-- `ctz32` is the lowest set bit, and 32 where there is none (R14). -/
def Obligations.Ctz32IsTheLowestSetBit : Prop :=
  ∀ v : Word, (v = 0 → ctz32 v = 32) ∧
    (v ≠ 0 → ctz32 v < 32 ∧ v.getLsbD (ctz32 v) = true ∧ ∀ k, k < ctz32 v → v.getLsbD k = false)

/-- The selection law (R135), for every state of the registers. -/
def Obligations.RecomputeObeysTheSelectionLaw : Prop :=
  ∀ (s : State) (c0 c1 : Word),
    c0 = s.ia.pending0 &&& s.ia.enable0 &&& ~~~s.ia.mask0 →
    c1 = s.ia.pending1 &&& s.ia.enable1 &&& ~~~s.ia.mask1 →
    s.recompute.ia.vector =
      if c0 ≠ 0 then BitVec.ofNat 32 ((0 * 32 + ctz32 c0) * 4)
      else if c1 ≠ 0 then BitVec.ofNat 32 ((1 * 32 + ctz32 c1) * 4)
      else 0

/-- Among the candidates the lowest-numbered line wins (R219): the vector is four times its number; and it is 0
where there is no candidate. -/
def Obligations.LowestNumberedCandidateWins : Prop :=
  ∀ s : State, (∀ n, s.ia.Lowest n → s.recompute.ia.vector = BitVec.ofNat 32 (4 * n)) ∧
    (s.ia.NoCandidate → s.recompute.ia.vector = 0)

/-- The winner's bank is all ones after a recompute and the other pending word is unchanged; with no winner both
are (R110, R111). -/
def Obligations.SelectionFloodsTheWinningBank : Prop :=
  ∀ s : State,
    (∀ n, s.ia.Lowest n → n < 32 →
      s.recompute.ia.pending0 = 0xFFFFFFFF ∧ s.recompute.ia.pending1 = s.ia.pending1) ∧
    (∀ n, s.ia.Lowest n → 32 ≤ n →
      s.recompute.ia.pending0 = s.ia.pending0 ∧ s.recompute.ia.pending1 = 0xFFFFFFFF) ∧
    (s.ia.NoCandidate →
      s.recompute.ia.pending0 = s.ia.pending0 ∧ s.recompute.ia.pending1 = s.ia.pending1)

/-- A recompute asserts the output exactly for a non-zero vector, drives it once, and changes nothing but the
vector, the output and the pending words (R110, R113). -/
def Obligations.OutputFollowsTheVector : Prop :=
  ∀ s : State, ∃ b : Ia, s.ia.AfterRecompute b ∧
    s.recompute = { s with ia := b, events := s.events ++ [.irq b.irqOut] } ∧
    b.irqOut = decide (b.vector ≠ 0)

/-- Line 0 (R112): as a candidate it wins, gives the vector 0 and no request, floods bank 0 and leaves bank 1
unselected. -/
def Obligations.LineZeroWinsWithoutARequest : Prop :=
  ∀ s : State, s.ia.candidate 0 = true →
    s.recompute.ia.vector = 0 ∧ s.recompute.ia.irqOut = false ∧
    s.recompute.ia.pending0 = 0xFFFFFFFF ∧ s.recompute.ia.pending1 = s.ia.pending1

/-- A line notification copies the level into the line's pending bit, and into no other, then recomputes (R114). -/
def Obligations.LineNotificationSetsThePendingBit : Prop :=
  ∀ (s : State) (line : BitVec 6) (level : Bool), line.toNat ≤ 40 →
    ∃ p0 p1 : Word,
      (∀ n, n < 64 → lineFlag p0 p1 n =
        if n = line.toNat then level else lineFlag s.ia.pending0 s.ia.pending1 n) ∧
      CompletesRecomputing (.iaLine line level) s { s.ia with pending0 := p0, pending1 := p1 } []

/-- A notification for a line above 40 is refused (R114, R213). -/
def Obligations.LinesAboveFortyAreRefused : Prop :=
  ∀ (s : State) (line : BitVec 6) (level : Bool), 40 < line.toNat →
    exec (.iaLine line level) s = .refused (.lineOutOfRange line)

/-- Each IA read returns its register and changes nothing (R115 to R123, R78). -/
def Obligations.AggregatorReadsReturnTheirRegisters : Prop :=
  ∀ s : State,
    exec .iaRVector s = .next { s with result := some s.ia.vector } ∧
    exec .iaRBaseAddr s = .next { s with result := some s.ia.baseAddr } ∧
    exec .iaRNmiCtl s = .next { s with result := some s.ia.nmiCtl } ∧
    exec .iaRPending0 s = .next { s with result := some s.ia.pending0 } ∧
    exec .iaRPending1 s = .next { s with result := some s.ia.pending1 } ∧
    exec .iaREnable0 s = .next { s with result := some s.ia.enable0 } ∧
    exec .iaREnable1 s = .next { s with result := some s.ia.enable1 } ∧
    exec .iaRMask0 s = .next { s with result := some s.ia.mask0 } ∧
    exec .iaRMask1 s = .next { s with result := some s.ia.mask1 }

/-- Each storing IA write stores its field, the pending words complemented and BASE_ADDR without bits 1:0, then
recomputes (R126 to R133, R136). -/
def Obligations.AggregatorWritesStoreAndRecompute : Prop :=
  ∀ (s : State) (v : Word),
    CompletesRecomputing (.iaWBaseAddr v) s { s.ia with baseAddr := v &&& 0xFFFFFFFC } [] ∧
    CompletesRecomputing (.iaWNmiCtl v) s { s.ia with nmiCtl := v } [] ∧
    CompletesRecomputing (.iaWPending0 v) s { s.ia with pending0 := 0xFFFFFFFF - v } [] ∧
    CompletesRecomputing (.iaWPending1 v) s { s.ia with pending1 := 0xFFFFFFFF - v } [] ∧
    CompletesRecomputing (.iaWEnable0 v) s { s.ia with enable0 := v } [] ∧
    CompletesRecomputing (.iaWEnable1 v) s { s.ia with enable1 := v } [] ∧
    CompletesRecomputing (.iaWMask0 v) s { s.ia with mask0 := v } [] ∧
    CompletesRecomputing (.iaWMask1 v) s { s.ia with mask1 := v } []

/-- A write to VECTOR or to an undefined IA offset stores nothing; it recomputes exactly when the parameter says
so, and the undefined offset is reported first (R125, R134, R136). -/
def Obligations.IgnoredAggregatorWrites : Prop :=
  ∀ (s : State) (off v : Word),
    (s.params.recomputeOnIgnoredWrite = false →
      exec (.iaWVector v) s = .next s ∧
      (off ∉ iaOffsets →
        exec (.iaWUndef off v) s = .next { s with events := s.events ++ [.diag .ia .write off] })) ∧
    (s.params.recomputeOnIgnoredWrite = true →
      CompletesRecomputing (.iaWVector v) s s.ia [] ∧
      (off ∉ iaOffsets → CompletesRecomputing (.iaWUndef off v) s s.ia [.diag .ia .write off]))

/-- A read at an undefined offset of either block returns 0 and only reports the offset (R124, R171). -/
def Obligations.UndefinedReadsReturnZeroAndReport : Prop :=
  ∀ (s : State) (off : Word) (n : Byte), 1 ≤ s.params.fifoDepth → wfSize n = true →
    (off ∉ iaOffsets → exec (.iaRUndef off) s =
      .next { s with result := some 0, events := s.events ++ [.diag .ia .read off] }) ∧
    (off ∉ spiOffsets → exec (.spiRUndef off n) s =
      .next { s with result := some 0, events := s.events ++ [.diag .spi .read off] })

/-- A PENDING0 write then a PENDING0 read returns the complement of the value when the recompute selects no line
of bank 0, and 0xFFFFFFFF otherwise (R128, conflict C1). -/
def Obligations.PendingReadsBackTheComplementUnlessSelected : Prop :=
  ∀ (s : State) (v : Word), ∃ t,
    exec (.iaWPending0 v) s = .next t ∧
    (~~~v &&& s.ia.enable0 &&& ~~~s.ia.mask0 = 0 →
      exec .iaRPending0 t = .next { t with result := some (~~~v) }) ∧
    (~~~v &&& s.ia.enable0 &&& ~~~s.ia.mask0 ≠ 0 →
      exec .iaRPending0 t = .next { t with result := some 0xFFFFFFFF })

/-- The IA reset zeroes every register, deasserts the output and drives it (R241, R243). -/
def Obligations.AggregatorResetZeroesEverything : Prop :=
  ∀ s : State, exec .iaReset s = .next { s with
    ia := { pending0 := 0, pending1 := 0, enable0 := 0, enable1 := 0, mask0 := 0, mask1 := 0
            vector := 0, baseAddr := 0, nmiCtl := 0, irqOut := false }
    events := s.events ++ [.irq false] }

/-! The SpiController (41_spi.md) -/

/-- The FIFO primitives (R17). -/
def Obligations.FifoPrimitivesKeepOrderAndDropOverflow : Prop :=
  ∀ (depth : Nat) (q : List Byte) (b : Byte),
    (q.length < depth → fifoPush depth q b = q ++ [b]) ∧
    (depth ≤ q.length → fifoPush depth q b = q) ∧
    fifoPop (b :: q) = (some b, q) ∧ fifoPop [] = (none, []) ∧ fifoClear = [] ∧
    (fifoFull depth q = true ↔ depth ≤ q.length) ∧ (fifoEmpty q = true ↔ q.length = 0)

/-- The SPI reads that return 0 and those of the counters change nothing (R160, R162, R163, R165 to R169). -/
def Obligations.ConstantAndCounterReads : Prop :=
  ∀ (s : State) (n : Byte), 1 ≤ s.params.fifoDepth → wfSize n = true →
    exec (.spiRGlbCtl n) s = .next { s with result := some 0 } ∧
    exec (.spiRIntCtl n) s = .next { s with result := some 0 } ∧
    exec (.spiRFifoCtl n) s = .next { s with result := some 0 } ∧
    exec (.spiRClkCtl n) s = .next { s with result := some 0 } ∧
    exec (.spiRTxdata n) s = .next { s with result := some 0 } ∧
    exec (.spiRBurstCnt n) s = .next { s with result := some (s.spi.burstBytes.setWidth 32) } ∧
    exec (.spiRSendCnt n) s = .next { s with result := some (s.spi.sendBytes.setWidth 32) } ∧
    exec (.spiRBurstCtl n) s = .next { s with result := some (s.spi.sendBytes.setWidth 32) }

/-- FIFO_STA packs the two occupancies modulo 128 at bits 6:0 and 22:16 (R49, R164). -/
def Obligations.FifoStatusPacksTheOccupancies : Prop :=
  ∀ (s : State) (n : Byte), 1 ≤ s.params.fifoDepth → wfSize n = true →
    ∃ w : Word, exec (.spiRFifoSta n) s = .next { s with result := some w } ∧
      w.toNat = s.spi.rxFifo.length % 128 + 65536 * (s.spi.txFifo.length % 128)

/-- TFR_CTL reads cs_index at bits 5:4, cs_level at bit 7, start_burst at bit 31 and 0 elsewhere (R47, R161); while
cs_index is -1 bits 5:4 are whatever the free value gives, one draw is spent (log entry 9), and every other bit is as said. -/
def Obligations.TransferControlReadsTheThreeFields : Prop :=
  ∀ (s : State) (n : Byte), 1 ≤ s.params.fifoDepth → wfSize n = true →
    ∃ (w : Word) (k : Nat),
      exec (.spiRTfrCtl n) s = .next { s with result := some w, draws := k } ∧
      w.getLsbD 7 = s.spi.csLevel ∧ w.getLsbD 31 = s.spi.startBurst ∧
      (∀ j, j < 32 → j ≠ 4 → j ≠ 5 → j ≠ 7 → j ≠ 31 → w.getLsbD j = false) ∧
      (∀ x, s.spi.csIndex = some x → w.extractLsb' 4 2 = x ∧ k = s.draws) ∧
      (s.spi.csIndex = none → w.extractLsb' 4 2 = Config.csIndexBits s.draws ∧ k = s.draws + 1)

/-- The RXDATA read pops up to `size` bytes: byte j of the result is the j-th byte popped, bytes not popped read 0,
and the FIFO loses exactly the popped bytes from its front (R51, R170). -/
def Obligations.RxdataReadPopsLittleEndian : Prop :=
  ∀ (s : State) (n : Byte), 1 ≤ s.params.fifoDepth → wfSize n = true →
    ∃ w : Word,
      exec (.spiRRxdata n) s =
        .next { s with result := some w, spi := { s.spi with rxFifo := s.spi.rxFifo.drop n.toNat } } ∧
      (∀ j, j < n.toNat → w.extractLsb' (8 * j) 8 = s.spi.rxFifo.getD j 0) ∧
      (∀ j, n.toNat ≤ j → j < 4 → w.extractLsb' (8 * j) 8 = 0)

/-- BURST_CNT, SEND_CNT and BURST_CTL writes store value[7:0], the last two in one field, and change nothing else
(R181 to R183). A value that does not fit its size (R77 delivers none) runs as given: the model's choice (log entry
19). -/
def Obligations.CounterWritesStoreTheLowByte : Prop :=
  ∀ (s : State) (v : Word) (n : Byte), 1 ≤ s.params.fifoDepth → wfSize n = true →
    ∃ b : Byte, b.toNat = v.toNat % 256 ∧
      exec (.spiWBurstCnt v n) s = .next { s with spi := { s.spi with burstBytes := b } } ∧
      exec (.spiWSendCnt v n) s = .next { s with spi := { s.spi with sendBytes := b } } ∧
      exec (.spiWBurstCtl v n) s = .next { s with spi := { s.spi with sendBytes := b } }

/-- A TXDATA write queues value[7:0] at every size, or nothing where the FIFO is full (R184). A value
that does not fit its size (R77 delivers none) runs as given: the model's choice (log entry 19). -/
def Obligations.TxdataWriteQueuesOneByte : Prop :=
  ∀ (s : State) (v : Word) (n : Byte), 1 ≤ s.params.fifoDepth → wfSize n = true →
    (s.spi.txFifo.length < s.params.fifoDepth → ∃ b : Byte, b.toNat = v.toNat % 256 ∧
      exec (.spiWTxdata v n) s = .next { s with spi := { s.spi with txFifo := s.spi.txFifo ++ [b] } }) ∧
    (s.params.fifoDepth ≤ s.spi.txFifo.length → exec (.spiWTxdata v n) s = .next s)

/-- The SPI writes without effect (R177, R179, R180, R185), and the write to an undefined offset, which only
reports it (R186). A value that does not fit its size (R77 delivers none) runs as given: the model's choice (log
entry 19). -/
def Obligations.ControllerWritesWithoutEffect : Prop :=
  ∀ (s : State) (v off : Word) (n : Byte), 1 ≤ s.params.fifoDepth → wfSize n = true →
    exec (.spiWIntCtl v n) s = .next s ∧ exec (.spiWFifoSta v n) s = .next s ∧
    exec (.spiWClkCtl v n) s = .next s ∧ exec (.spiWRxdata v n) s = .next s ∧
    (off ∉ spiOffsets → exec (.spiWUndef off v n) s =
      .next { s with events := s.events ++ [.diag .spi .write off] })

/-- A FIFO_CTL write empties the RX FIFO when bit 15 is set and never touches the TX FIFO (R178, R101). A
one-byte write cannot have bit 15 set (R77 delivers no such value): that it then clears as well is the model's
choice (log entry 19). -/
def Obligations.FifoControlClearsOnlyTheRxFifo : Prop :=
  ∀ (s : State) (v : Word) (n : Byte), 1 ≤ s.params.fifoDepth → wfSize n = true →
    exec (.spiWFifoCtl v n) s =
      .next { s with spi := { s.spi with rxFifo := if v.getLsbD 15 then [] else s.spi.rxFifo } }

/-- The chip-select protocol for a line (R151): a request equal to the current state does nothing; any other raises
the four lines, drives the requested one, and stores index and level. -/
def Obligations.ChipSelectProtocolDrivesOnlyOnChange : Prop :=
  ∀ (s : State) (n : BitVec 2) (level : Bool),
    (some n = s.spi.csIndex ∧ level = s.spi.csLevel → s.updateCs (some n) level = s) ∧
    (¬(some n = s.spi.csIndex ∧ level = s.spi.csLevel) →
      s.updateCs (some n) level = { s with
        spi := { s.spi with csIndex := some n, csLevel := level, csLine := csLevels n level }
        events := s.events ++ csEvents n level })

/-- The chip-select protocol for "no line" (R151), which no request asks for: the four lines go high. -/
def Obligations.ChipSelectProtocolWithoutALine : Prop :=
  ∀ (s : State) (level : Bool), ¬(none = s.spi.csIndex ∧ level = s.spi.csLevel) →
    s.updateCs none level = { s with
      spi := { s.spi with csIndex := none, csLevel := level, csLine := Vector.replicate 4 true }
      events := s.events ++ [.cs 0 true, .cs 1 true, .cs 2 true, .cs 3 true] }

/-- A TFR_CTL write without bit 31 is the protocol call for value[5:4] and value[7], and leaves start_burst 0
(R176). A value that does not fit its size (R77 delivers none) runs as given: the model's choice (log entry 19). -/
def Obligations.TransferControlWriteUpdatesTheChipSelect : Prop :=
  ∀ (s : State) (v : Word) (n : Byte), 1 ≤ s.params.fifoDepth → wfSize n = true → v.getLsbD 31 = false →
    exec (.spiWTfrCtl v n) s = .next { s with
      spi := { s.spi.afterCs (v.extractLsb' 4 2) (v.getLsbD 7) with startBurst := false }
      events := s.events ++ s.spi.eventsCs (v.extractLsb' 4 2) (v.getLsbD 7) }

/-- A burst's bytes (R154): min(S, N, len T) bytes from the TX FIFO then filler to N; the answers kept in the RX
FIFO as far as they fit; N exchanges; the counters unchanged and start_burst cleared. -/
def Obligations.BurstExchangesItsBytes : Prop :=
  ∀ s : State,
    s.runBurst.spi.txFifo = s.spi.txFifo.drop (burstTaken s.spi) ∧
    s.runBurst.spi.rxFifo = burstRx s.params.fifoDepth s.spi s.device ∧
    s.runBurst.device = (deviceRun s.device (burstOut s.spi)).2 ∧
    (burstOut s.spi).length = s.spi.burstBytes.toNat ∧
    s.runBurst.events.filter Event.isXfer =
      s.events.filter Event.isXfer ++ burstEvents s.spi s.device ∧
    s.runBurst.spi.burstBytes = s.spi.burstBytes ∧ s.runBurst.spi.sendBytes = s.spi.sendBytes ∧
    s.runBurst.spi.startBurst = false

/-- The chip-select around a burst (R155), for a line idx. -/
def Obligations.BurstBracketsTheTransferWithChipSelect : Prop :=
  ∀ (s : State) (idx : BitVec 2), s.spi.csIndex = some idx →
    (s.spi.burstBytes.toNat ≤ s.spi.sendBytes.toNat →
      s.runBurst.events = s.events ++ burstEvents s.spi s.device ∧
      s.runBurst.spi.csIndex = some idx ∧ s.runBurst.spi.csLevel = s.spi.csLevel ∧
      s.runBurst.spi.csLine = s.spi.csLine) ∧
    (s.spi.sendBytes.toNat < s.spi.burstBytes.toNat → s.spi.csLevel = true →
      s.runBurst.events =
        s.events ++ csEvents idx false ++ burstEvents s.spi s.device ++ csEvents idx true ∧
      s.runBurst.spi.csIndex = some idx ∧ s.runBurst.spi.csLevel = true ∧
      s.runBurst.spi.csLine = Vector.replicate 4 true) ∧
    (s.spi.sendBytes.toNat < s.spi.burstBytes.toNat → s.spi.csLevel = false →
      s.runBurst.events = s.events ++ burstEvents s.spi s.device ++ csEvents idx true ∧
      s.runBurst.spi.csIndex = some idx ∧ s.runBurst.spi.csLevel = true ∧
      s.runBurst.spi.csLine = Vector.replicate 4 true)

/-- A TFR_CTL write with bit 31 makes the protocol call, runs the whole burst inside the write and clears
start_burst; nothing but the SPI, the device and the events changes (R153 to R155, R176). Bit 31 needs a
four-byte write (R77, R255): that a narrower one with bit 31 set starts a burst as well is the model's choice (log
entry 19). -/
def Obligations.TransferControlWriteRunsTheBurst : Prop :=
  ∀ (s : State) (v : Word) (n : Byte) (idx : BitVec 2) (level auto : Bool),
    1 ≤ s.params.fifoDepth → wfSize n = true →
    v.getLsbD 31 = true → idx = v.extractLsb' 4 2 → level = v.getLsbD 7 →
    auto = decide (s.spi.sendBytes.toNat < s.spi.burstBytes.toNat) →
    exec (.spiWTfrCtl v n) s = .next { s with
      spi := {
        txFifo := s.spi.txFifo.drop (burstTaken s.spi)
        rxFifo := burstRx s.params.fifoDepth s.spi s.device
        csIndex := some idx
        csLevel := auto || level
        csLine := if auto then Vector.replicate 4 true else (s.spi.afterCs idx level).csLine
        startBurst := false
        burstBytes := s.spi.burstBytes
        sendBytes := s.spi.sendBytes }
      device := (deviceRun s.device (burstOut s.spi)).2
      events := s.events ++ s.spi.eventsCs idx level ++ (if auto && level then csEvents idx false else [])
        ++ burstEvents s.spi s.device ++ (if auto then csEvents idx true else []) }

/-- The SPI reset (R242, R244): the defaults in every register; in `Drive` mode the five drives, in `Literal` mode no
drive and the lines as they were. -/
def Obligations.ControllerResetRestoresTheDefaults : Prop :=
  ∀ s : State, 1 ≤ s.params.fifoDepth →
    (s.params.resetCsMode = .drive → exec .spiReset s = .next { s with
      spi := { txFifo := [], rxFifo := [], csIndex := some 0, csLevel := true
               csLine := Vector.replicate 4 true, startBurst := false, burstBytes := 0, sendBytes := 0 }
      events := s.events ++ [.cs 0 true, .cs 1 true, .cs 2 true, .cs 3 true, .cs 0 true] }) ∧
    (s.params.resetCsMode = .literal → exec .spiReset s = .next { s with
      spi := { txFifo := [], rxFifo := [], csIndex := some 0, csLevel := true
               csLine := s.spi.csLine, startBurst := false, burstBytes := 0, sendBytes := 0 } })

/-- A GLB_CTL write resets the SPI exactly when bit 31 is set, as SPI.RESET does, and stores nothing (R175,
R244). Bit 31 needs a four-byte write (R77, R175, R255): that a narrower one with bit 31 set resets as well is the
model's choice (log entry 19). -/
def Obligations.GlobalControlBit31ResetsTheController : Prop :=
  ∀ (s : State) (v : Word) (n : Byte), 1 ≤ s.params.fifoDepth → wfSize n = true →
    (v.getLsbD 31 = false → exec (.spiWGlbCtl v n) s = .next s) ∧
    (v.getLsbD 31 = true → exec (.spiWGlbCtl v n) s = exec .spiReset s ∧ ∃ t, exec .spiReset s = .next t)

/-! Reset and invariants -/

/-- The state at construction, whatever the parameters and the device (R60, R240), and that State.reset is one. Its
parameters, device, order of requests and output are the model's choice (log entries 2, 4, 5, 8). -/
def Obligations.ConstructionLeavesTheStatedValues : Prop :=
  (∀ (p : Params) (d : Downstream),
    (State.construct p d).ia = { pending0 := 0, pending1 := 0, enable0 := 0, enable1 := 0, mask0 := 0, mask1 := 0
                                 vector := 0, baseAddr := 0, nmiCtl := 0, irqOut := false } ∧
    (State.construct p d).spi = { txFifo := [], rxFifo := [], csIndex := some 0, csLevel := true
                                  csLine := Vector.replicate 4 true, startBurst := false
                                  burstBytes := 0, sendBytes := 0 } ∧
    (State.construct p d).params = p ∧ (State.construct p d).device = d) ∧
  ∃ p d, State.reset = State.construct p d

/-- Every step keeps the invariant of both blocks: base_addr and vector multiples of 4, the vector at most 252, the
output equal to vector ≠ 0, the FIFOs within capacity, cs_index never -1, start_burst 0 between steps. -/
def Obligations.StepKeepsTheInvariant : Prop :=
  ∀ s t : State, s.Inv → step s = .next t → t.Inv

/-- The invariant holds at construction, whatever the parameters and the device, and at State.reset. -/
def Obligations.ConstructionHasTheInvariant : Prop :=
  (∀ (p : Params) (d : Downstream), (State.construct p d).Inv) ∧ State.reset.Inv

/-- Every step keeps at most one chip-select line low (R152), in both reset modes. -/
def Obligations.StepKeepsAtMostOneLineLow : Prop :=
  ∀ s t : State, s.spi.AtMostOneLow → step s = .next t → t.spi.AtMostOneLow

/-- In `Drive` mode every step keeps the lines equal to what cs_index and cs_level say (R151, R152, R261). -/
def Obligations.StepKeepsTheLinesFollowingTheRegisters : Prop :=
  ∀ s t : State, s.params.resetCsMode = .drive → s.spi.LinesFollow → step s = .next t → t.spi.LinesFollow

/-- At construction, whatever the parameters and the device, and at State.reset the four lines are high (R240,
decision D13), so that at most one is low and the lines follow the registers: the base case of the two invariants
above. -/
def Obligations.ConstructionHasItsLinesHigh : Prop :=
  ∀ (p : Params) (d : Downstream),
    (State.construct p d).spi.csLine = Vector.replicate 4 true ∧
    (State.construct p d).spi.AtMostOneLow ∧ (State.construct p d).spi.LinesFollow ∧
    State.reset.spi.csLine = Vector.replicate 4 true ∧ State.reset.spi.AtMostOneLow ∧ State.reset.spi.LinesFollow
end

