-- ==== Sys2Proof/Laws/State.lean ====
section
/-! SUPPORT. One lemma per field per update of State, and the bank accessors of the IA after each bank write. -/

namespace Sys2Proof.Machine

variable (s : State)

@[simp] theorem State.emit_ia (e : Event) : (s.emit e).ia = s.ia := rfl
@[simp] theorem State.emit_spi (e : Event) : (s.emit e).spi = s.spi := rfl
@[simp] theorem State.emit_params (e : Event) : (s.emit e).params = s.params := rfl
@[simp] theorem State.emit_device (e : Event) : (s.emit e).device = s.device := rfl
@[simp] theorem State.emit_inputs (e : Event) : (s.emit e).inputs = s.inputs := rfl
@[simp] theorem State.emit_events (e : Event) : (s.emit e).events = s.events ++ [e] := rfl
@[simp] theorem State.emit_result (e : Event) : (s.emit e).result = s.result := rfl
@[simp] theorem State.emit_draws (e : Event) : (s.emit e).draws = s.draws := rfl

@[simp] theorem State.answer_ia (v : Word) : (s.answer v).ia = s.ia := rfl
@[simp] theorem State.answer_spi (v : Word) : (s.answer v).spi = s.spi := rfl
@[simp] theorem State.answer_params (v : Word) : (s.answer v).params = s.params := rfl
@[simp] theorem State.answer_device (v : Word) : (s.answer v).device = s.device := rfl
@[simp] theorem State.answer_inputs (v : Word) : (s.answer v).inputs = s.inputs := rfl
@[simp] theorem State.answer_events (v : Word) : (s.answer v).events = s.events := rfl
@[simp] theorem State.answer_result (v : Word) : (s.answer v).result = some v := rfl
@[simp] theorem State.answer_draws (v : Word) : (s.answer v).draws = s.draws := rfl

@[simp] theorem State.withIa_ia (a : Ia) : (s.withIa a).ia = a := rfl
@[simp] theorem State.withIa_spi (a : Ia) : (s.withIa a).spi = s.spi := rfl
@[simp] theorem State.withIa_params (a : Ia) : (s.withIa a).params = s.params := rfl
@[simp] theorem State.withIa_device (a : Ia) : (s.withIa a).device = s.device := rfl
@[simp] theorem State.withIa_inputs (a : Ia) : (s.withIa a).inputs = s.inputs := rfl
@[simp] theorem State.withIa_events (a : Ia) : (s.withIa a).events = s.events := rfl
@[simp] theorem State.withIa_result (a : Ia) : (s.withIa a).result = s.result := rfl
@[simp] theorem State.withIa_draws (a : Ia) : (s.withIa a).draws = s.draws := rfl

@[simp] theorem State.withSpi_ia (q : Spi) : (s.withSpi q).ia = s.ia := rfl
@[simp] theorem State.withSpi_spi (q : Spi) : (s.withSpi q).spi = q := rfl
@[simp] theorem State.withSpi_params (q : Spi) : (s.withSpi q).params = s.params := rfl
@[simp] theorem State.withSpi_device (q : Spi) : (s.withSpi q).device = s.device := rfl
@[simp] theorem State.withSpi_inputs (q : Spi) : (s.withSpi q).inputs = s.inputs := rfl
@[simp] theorem State.withSpi_events (q : Spi) : (s.withSpi q).events = s.events := rfl
@[simp] theorem State.withSpi_result (q : Spi) : (s.withSpi q).result = s.result := rfl
@[simp] theorem State.withSpi_draws (q : Spi) : (s.withSpi q).draws = s.draws := rfl

@[simp] theorem State.withDevice_ia (d : Downstream) : (s.withDevice d).ia = s.ia := rfl
@[simp] theorem State.withDevice_spi (d : Downstream) : (s.withDevice d).spi = s.spi := rfl
@[simp] theorem State.withDevice_params (d : Downstream) : (s.withDevice d).params = s.params := rfl
@[simp] theorem State.withDevice_device (d : Downstream) : (s.withDevice d).device = d := rfl
@[simp] theorem State.withDevice_inputs (d : Downstream) : (s.withDevice d).inputs = s.inputs := rfl
@[simp] theorem State.withDevice_events (d : Downstream) : (s.withDevice d).events = s.events := rfl
@[simp] theorem State.withDevice_result (d : Downstream) : (s.withDevice d).result = s.result := rfl
@[simp] theorem State.withDevice_draws (d : Downstream) : (s.withDevice d).draws = s.draws := rfl

@[simp] theorem State.drawn_ia : (s.drawn).ia = s.ia := rfl
@[simp] theorem State.drawn_spi : (s.drawn).spi = s.spi := rfl
@[simp] theorem State.drawn_params : (s.drawn).params = s.params := rfl
@[simp] theorem State.drawn_device : (s.drawn).device = s.device := rfl
@[simp] theorem State.drawn_inputs : (s.drawn).inputs = s.inputs := rfl
@[simp] theorem State.drawn_events : (s.drawn).events = s.events := rfl
@[simp] theorem State.drawn_result : (s.drawn).result = s.result := rfl
@[simp] theorem State.drawn_draws : (s.drawn).draws = s.draws + 1 := rfl

@[simp] theorem State.quiet_ia : (s.quiet).ia = s.ia := rfl
@[simp] theorem State.quiet_spi : (s.quiet).spi = s.spi := rfl
@[simp] theorem State.quiet_params : (s.quiet).params = s.params := rfl
@[simp] theorem State.quiet_device : (s.quiet).device = s.device := rfl
@[simp] theorem State.quiet_inputs : (s.quiet).inputs = s.inputs := rfl
@[simp] theorem State.quiet_events : (s.quiet).events = [] := rfl
@[simp] theorem State.quiet_result : (s.quiet).result = none := rfl
@[simp] theorem State.quiet_draws : (s.quiet).draws = s.draws := rfl

@[simp] theorem State.begun_ia (rest : List Packet) : (s.begun rest).ia = s.ia := rfl
@[simp] theorem State.begun_spi (rest : List Packet) : (s.begun rest).spi = s.spi := rfl
@[simp] theorem State.begun_params (rest : List Packet) : (s.begun rest).params = s.params := rfl
@[simp] theorem State.begun_device (rest : List Packet) : (s.begun rest).device = s.device := rfl
@[simp] theorem State.begun_inputs (rest : List Packet) : (s.begun rest).inputs = rest := rfl
@[simp] theorem State.begun_events (rest : List Packet) : (s.begun rest).events = [] := rfl
@[simp] theorem State.begun_result (rest : List Packet) : (s.begun rest).result = none := rfl
@[simp] theorem State.begun_draws (rest : List Packet) : (s.begun rest).draws = s.draws := rfl

@[simp] theorem State.pushInput_ia (p : Packet) : (s.pushInput p).ia = s.ia := rfl
@[simp] theorem State.pushInput_spi (p : Packet) : (s.pushInput p).spi = s.spi := rfl
@[simp] theorem State.pushInput_params (p : Packet) : (s.pushInput p).params = s.params := rfl
@[simp] theorem State.pushInput_device (p : Packet) : (s.pushInput p).device = s.device := rfl
@[simp] theorem State.pushInput_inputs (p : Packet) : (s.pushInput p).inputs = p :: s.inputs := rfl
@[simp] theorem State.pushInput_events (p : Packet) : (s.pushInput p).events = s.events := rfl
@[simp] theorem State.pushInput_result (p : Packet) : (s.pushInput p).result = s.result := rfl
@[simp] theorem State.pushInput_draws (p : Packet) : (s.pushInput p).draws = s.draws := rfl

@[simp] theorem State.report_ia (u : Block) (d : Dir) (off : Word) : (s.report u d off).ia = s.ia := rfl
@[simp] theorem State.report_spi (u : Block) (d : Dir) (off : Word) : (s.report u d off).spi = s.spi := rfl
@[simp] theorem State.report_params (u : Block) (d : Dir) (off : Word) : (s.report u d off).params = s.params := rfl
@[simp] theorem State.report_device (u : Block) (d : Dir) (off : Word) : (s.report u d off).device = s.device := rfl
@[simp] theorem State.report_inputs (u : Block) (d : Dir) (off : Word) : (s.report u d off).inputs = s.inputs := rfl
@[simp] theorem State.report_events (u : Block) (d : Dir) (off : Word) : (s.report u d off).events = s.events ++ [.diag u d off] := rfl
@[simp] theorem State.report_result (u : Block) (d : Dir) (off : Word) : (s.report u d off).result = s.result := rfl
@[simp] theorem State.report_draws (u : Block) (d : Dir) (off : Word) : (s.report u d off).draws = s.draws := rfl

@[simp] theorem State.driveCs_ia (n : BitVec 2) (level : Bool) : (s.driveCs n level).ia = s.ia := rfl
@[simp] theorem State.driveCs_spi (n : BitVec 2) (level : Bool) : (s.driveCs n level).spi = { s.spi with csLine := s.spi.csLine.set n.toNat level n.isLt } := rfl
@[simp] theorem State.driveCs_params (n : BitVec 2) (level : Bool) : (s.driveCs n level).params = s.params := rfl
@[simp] theorem State.driveCs_device (n : BitVec 2) (level : Bool) : (s.driveCs n level).device = s.device := rfl
@[simp] theorem State.driveCs_inputs (n : BitVec 2) (level : Bool) : (s.driveCs n level).inputs = s.inputs := rfl
@[simp] theorem State.driveCs_events (n : BitVec 2) (level : Bool) : (s.driveCs n level).events = s.events ++ [.cs n level] := rfl
@[simp] theorem State.driveCs_result (n : BitVec 2) (level : Bool) : (s.driveCs n level).result = s.result := rfl
@[simp] theorem State.driveCs_draws (n : BitVec 2) (level : Bool) : (s.driveCs n level).draws = s.draws := rfl

@[simp] theorem State.storeCs_ia (index : CsIndex) (level : Bool) : (s.storeCs index level).ia = s.ia := rfl
@[simp] theorem State.storeCs_spi (index : CsIndex) (level : Bool) : (s.storeCs index level).spi = { s.spi with csIndex := index, csLevel := level } := rfl
@[simp] theorem State.storeCs_params (index : CsIndex) (level : Bool) : (s.storeCs index level).params = s.params := rfl
@[simp] theorem State.storeCs_device (index : CsIndex) (level : Bool) : (s.storeCs index level).device = s.device := rfl
@[simp] theorem State.storeCs_inputs (index : CsIndex) (level : Bool) : (s.storeCs index level).inputs = s.inputs := rfl
@[simp] theorem State.storeCs_events (index : CsIndex) (level : Bool) : (s.storeCs index level).events = s.events := rfl
@[simp] theorem State.storeCs_result (index : CsIndex) (level : Bool) : (s.storeCs index level).result = s.result := rfl
@[simp] theorem State.storeCs_draws (index : CsIndex) (level : Bool) : (s.storeCs index level).draws = s.draws := rfl

@[simp] theorem State.recompute_ia : (s.recompute).ia = s.ia.recomputed := rfl
@[simp] theorem State.recompute_spi : (s.recompute).spi = s.spi := rfl
@[simp] theorem State.recompute_params : (s.recompute).params = s.params := rfl
@[simp] theorem State.recompute_device : (s.recompute).device = s.device := rfl
@[simp] theorem State.recompute_inputs : (s.recompute).inputs = s.inputs := rfl
@[simp] theorem State.recompute_events : (s.recompute).events = s.events ++ [.irq s.ia.recomputed.irqOut] := rfl
@[simp] theorem State.recompute_result : (s.recompute).result = s.result := rfl
@[simp] theorem State.recompute_draws : (s.recompute).draws = s.draws := rfl

@[simp] theorem State.storeIa_ia (a : Ia) : (s.storeIa a).ia = a.recomputed := rfl
@[simp] theorem State.storeIa_spi (a : Ia) : (s.storeIa a).spi = s.spi := rfl
@[simp] theorem State.storeIa_params (a : Ia) : (s.storeIa a).params = s.params := rfl
@[simp] theorem State.storeIa_device (a : Ia) : (s.storeIa a).device = s.device := rfl
@[simp] theorem State.storeIa_inputs (a : Ia) : (s.storeIa a).inputs = s.inputs := rfl
@[simp] theorem State.storeIa_events (a : Ia) : (s.storeIa a).events = s.events ++ [.irq a.recomputed.irqOut] := rfl
@[simp] theorem State.storeIa_result (a : Ia) : (s.storeIa a).result = s.result := rfl
@[simp] theorem State.storeIa_draws (a : Ia) : (s.storeIa a).draws = s.draws := rfl

@[simp] theorem State.iaReset_ia : (s.iaReset).ia = Ia.initial := rfl
@[simp] theorem State.iaReset_spi : (s.iaReset).spi = s.spi := rfl
@[simp] theorem State.iaReset_params : (s.iaReset).params = s.params := rfl
@[simp] theorem State.iaReset_device : (s.iaReset).device = s.device := rfl
@[simp] theorem State.iaReset_inputs : (s.iaReset).inputs = s.inputs := rfl
@[simp] theorem State.iaReset_events : (s.iaReset).events = s.events ++ [.irq false] := rfl
@[simp] theorem State.iaReset_result : (s.iaReset).result = s.result := rfl
@[simp] theorem State.iaReset_draws : (s.iaReset).draws = s.draws := rfl

variable (a : Ia) (w : Word)

@[simp] theorem Ia.setPending_zero_pending_zero : (a.setPending .zero w).pending .zero = w := rfl
@[simp] theorem Ia.setPending_zero_pending_one : (a.setPending .zero w).pending .one = a.pending .one := rfl
@[simp] theorem Ia.setPending_zero_enable_zero : (a.setPending .zero w).enable .zero = a.enable .zero := rfl
@[simp] theorem Ia.setPending_zero_enable_one : (a.setPending .zero w).enable .one = a.enable .one := rfl
@[simp] theorem Ia.setPending_zero_mask_zero : (a.setPending .zero w).mask .zero = a.mask .zero := rfl
@[simp] theorem Ia.setPending_zero_mask_one : (a.setPending .zero w).mask .one = a.mask .one := rfl
@[simp] theorem Ia.setPending_one_pending_zero : (a.setPending .one w).pending .zero = a.pending .zero := rfl
@[simp] theorem Ia.setPending_one_pending_one : (a.setPending .one w).pending .one = w := rfl
@[simp] theorem Ia.setPending_one_enable_zero : (a.setPending .one w).enable .zero = a.enable .zero := rfl
@[simp] theorem Ia.setPending_one_enable_one : (a.setPending .one w).enable .one = a.enable .one := rfl
@[simp] theorem Ia.setPending_one_mask_zero : (a.setPending .one w).mask .zero = a.mask .zero := rfl
@[simp] theorem Ia.setPending_one_mask_one : (a.setPending .one w).mask .one = a.mask .one := rfl
@[simp] theorem Ia.setPending_vector (b : Bank) : (a.setPending b w).vector = a.vector := by cases b <;> rfl
@[simp] theorem Ia.setPending_baseAddr (b : Bank) : (a.setPending b w).baseAddr = a.baseAddr := by cases b <;> rfl
@[simp] theorem Ia.setPending_nmiCtl (b : Bank) : (a.setPending b w).nmiCtl = a.nmiCtl := by cases b <;> rfl
@[simp] theorem Ia.setPending_irqOut (b : Bank) : (a.setPending b w).irqOut = a.irqOut := by cases b <;> rfl

@[simp] theorem Ia.setEnable_zero_pending_zero : (a.setEnable .zero w).pending .zero = a.pending .zero := rfl
@[simp] theorem Ia.setEnable_zero_pending_one : (a.setEnable .zero w).pending .one = a.pending .one := rfl
@[simp] theorem Ia.setEnable_zero_enable_zero : (a.setEnable .zero w).enable .zero = w := rfl
@[simp] theorem Ia.setEnable_zero_enable_one : (a.setEnable .zero w).enable .one = a.enable .one := rfl
@[simp] theorem Ia.setEnable_zero_mask_zero : (a.setEnable .zero w).mask .zero = a.mask .zero := rfl
@[simp] theorem Ia.setEnable_zero_mask_one : (a.setEnable .zero w).mask .one = a.mask .one := rfl
@[simp] theorem Ia.setEnable_one_pending_zero : (a.setEnable .one w).pending .zero = a.pending .zero := rfl
@[simp] theorem Ia.setEnable_one_pending_one : (a.setEnable .one w).pending .one = a.pending .one := rfl
@[simp] theorem Ia.setEnable_one_enable_zero : (a.setEnable .one w).enable .zero = a.enable .zero := rfl
@[simp] theorem Ia.setEnable_one_enable_one : (a.setEnable .one w).enable .one = w := rfl
@[simp] theorem Ia.setEnable_one_mask_zero : (a.setEnable .one w).mask .zero = a.mask .zero := rfl
@[simp] theorem Ia.setEnable_one_mask_one : (a.setEnable .one w).mask .one = a.mask .one := rfl
@[simp] theorem Ia.setEnable_vector (b : Bank) : (a.setEnable b w).vector = a.vector := by cases b <;> rfl
@[simp] theorem Ia.setEnable_baseAddr (b : Bank) : (a.setEnable b w).baseAddr = a.baseAddr := by cases b <;> rfl
@[simp] theorem Ia.setEnable_nmiCtl (b : Bank) : (a.setEnable b w).nmiCtl = a.nmiCtl := by cases b <;> rfl
@[simp] theorem Ia.setEnable_irqOut (b : Bank) : (a.setEnable b w).irqOut = a.irqOut := by cases b <;> rfl

@[simp] theorem Ia.setMask_zero_pending_zero : (a.setMask .zero w).pending .zero = a.pending .zero := rfl
@[simp] theorem Ia.setMask_zero_pending_one : (a.setMask .zero w).pending .one = a.pending .one := rfl
@[simp] theorem Ia.setMask_zero_enable_zero : (a.setMask .zero w).enable .zero = a.enable .zero := rfl
@[simp] theorem Ia.setMask_zero_enable_one : (a.setMask .zero w).enable .one = a.enable .one := rfl
@[simp] theorem Ia.setMask_zero_mask_zero : (a.setMask .zero w).mask .zero = w := rfl
@[simp] theorem Ia.setMask_zero_mask_one : (a.setMask .zero w).mask .one = a.mask .one := rfl
@[simp] theorem Ia.setMask_one_pending_zero : (a.setMask .one w).pending .zero = a.pending .zero := rfl
@[simp] theorem Ia.setMask_one_pending_one : (a.setMask .one w).pending .one = a.pending .one := rfl
@[simp] theorem Ia.setMask_one_enable_zero : (a.setMask .one w).enable .zero = a.enable .zero := rfl
@[simp] theorem Ia.setMask_one_enable_one : (a.setMask .one w).enable .one = a.enable .one := rfl
@[simp] theorem Ia.setMask_one_mask_zero : (a.setMask .one w).mask .zero = a.mask .zero := rfl
@[simp] theorem Ia.setMask_one_mask_one : (a.setMask .one w).mask .one = w := rfl
@[simp] theorem Ia.setMask_vector (b : Bank) : (a.setMask b w).vector = a.vector := by cases b <;> rfl
@[simp] theorem Ia.setMask_baseAddr (b : Bank) : (a.setMask b w).baseAddr = a.baseAddr := by cases b <;> rfl
@[simp] theorem Ia.setMask_nmiCtl (b : Bank) : (a.setMask b w).nmiCtl = a.nmiCtl := by cases b <;> rfl
@[simp] theorem Ia.setMask_irqOut (b : Bank) : (a.setMask b w).irqOut = a.irqOut := by cases b <;> rfl

end Sys2Proof.Machine
end

