-- ==== Sys2Proof/Laws/Ops.lean ====
section
/-! SUPPORT. One lemma per shared operation, saying once everything it can do; later proofs cite these instead of
unfolding the operation. -/

namespace Sys2Proof.Machine

/-! The gates: when an access completes, and with what -/

/-- An SPI effect completes exactly where the SPI could be built, and is then the effect. -/
theorem spiBuilt_next (s t t' : State) :
    spiBuilt s t = .next t' ↔ s.params.fifoDepth ≠ 0 ∧ t = t' := by
  unfold spiBuilt
  by_cases h : s.params.fifoDepth = 0 <;> simp [h]

/-- An SPI access completes exactly at a size in range where the SPI could be built. -/
theorem spiAccess_next (size : Byte) (s t t' : State) :
    spiAccess size s t = .next t' ↔ sizeInRange size = true ∧ s.params.fifoDepth ≠ 0 ∧ t = t' := by
  unfold spiAccess
  by_cases h : sizeInRange size = true <;> simp [h, spiBuilt_next]

/-- A line notification completes exactly for a line in range. -/
theorem lineAccess_next (line : BitVec 6) (t t' : State) :
    lineAccess line t = .next t' ↔ lineInRange line = true ∧ t = t' := by
  unfold lineAccess
  by_cases h : lineInRange line = true <;> simp [h]

/-- An undefined-offset access completes exactly at an undefined offset, as the access given. -/
theorem undefAccess_next (map : List Word) (off : Word) (o : Host.Outcome State Fault Refusal) (t : State) :
    undefAccess map off o = .next t ↔ off ∉ map ∧ o = .next t := by
  unfold undefAccess
  by_cases h : off ∈ map <;> simp [h]

/-! The fetch -/

theorem fetch_nil (s : State) (h : s.inputs = []) : fetch s = .idle := by
  simp [fetch, h]

theorem fetch_request (s : State) (p : Packet) (rest : List Packet) (i : Instr)
    (h : s.inputs = p :: rest) (hd : decode p = .ok i) : fetch s = .request i (s.begun rest) := by
  simp [fetch, h, hd]

theorem fetch_rejected (s : State) (p : Packet) (rest : List Packet) (why : DecodeError)
    (h : s.inputs = p :: rest) (hd : decode p = .error why) : fetch s = .rejected why := by
  simp [fetch, h, hd]

/-- A step that answers a next state either had no request to come, or ran the decoded one. -/
theorem step_cases (s t : State) (h : step s = .next t) :
    (s.inputs = [] ∧ t = s.quiet) ∨
    ∃ p rest i, s.inputs = p :: rest ∧ decode p = .ok i ∧ exec i (s.begun rest) = .next t := by
  unfold step fetch at h
  cases hin : s.inputs with
  | nil =>
    rw [hin] at h
    exact .inl ⟨rfl, by simpa using h.symm⟩
  | cons p rest =>
    rw [hin] at h
    cases hd : decode p with
    | error why => simp [hd] at h
    | ok i => exact .inr ⟨p, rest, i, rfl, hd, by simpa [hd] using h⟩

/-! The priority encoder -/

theorem ctz32_of_lowest (v : Word) (k : Nat) (hk : k < 32) (hv : v.getLsbD k = true)
    (hlow : ∀ j, j < k → v.getLsbD j = false) : ctz32 v = k := by
  have h : (List.range 32).find? (fun k => v.getLsbD k) = some k := by
    rw [List.find?_range_eq_some]
    exact ⟨hv, List.mem_range.mpr hk, fun j hj => by simp [hlow j hj]⟩
  simp [ctz32, h]

theorem ctz32_of_none (v : Word) (hv : ∀ j, j < 32 → v.getLsbD j = false) : ctz32 v = 32 := by
  have h : (List.range 32).find? (fun k => v.getLsbD k) = none := by
    rw [List.find?_eq_none]
    intro j hj
    simp [hv j (List.mem_range.mp hj)]
  simp [ctz32, h]

/-- A bank with no candidate leaves the scan as it was; so does a bank after a winner. -/
theorem scanBank_skip (c : Scan) (b : Bank) (h : c.sel = true ∨ ¬ ctz32 (c.ia.candidates b) < 32) :
    scanBank c b = c := by
  rcases h with h | h <;> simp [scanBank, h]

/-- The first bank with a candidate wins: its line's number times 4, and its pending word OR-ed. -/
theorem scanBank_win (c : Scan) (b : Bank) (hs : c.sel = false) (h : ctz32 (c.ia.candidates b) < 32) :
    scanBank c b =
      { sel := true
        v := (b.num * 32 + ctz32 (c.ia.candidates b)) * 4
        ia := c.ia.setPending b (c.ia.pending b ||| ~~~(oneBit (ctz32 (c.ia.candidates b)))) } := by
  simp [scanBank, hs, h]

theorem scanBanks_eq (a : Ia) : scanBanks a = scanBank (scanBank ⟨false, 0, a⟩ .zero) .one := by
  simp only [scanBanks, List.foldl]

/-- Everything a recompute can do: bank 0 wins, or else bank 1 wins, or neither has a candidate. -/
theorem scanBanks_cases (a : Ia) :
    (ctz32 (a.candidates .zero) < 32 ∧
      scanBanks a = ⟨true, ctz32 (a.candidates .zero) * 4,
        a.setPending .zero (a.pending .zero ||| ~~~(oneBit (ctz32 (a.candidates .zero))))⟩) ∨
    (¬ ctz32 (a.candidates .zero) < 32 ∧ ctz32 (a.candidates .one) < 32 ∧
      scanBanks a = ⟨true, (32 + ctz32 (a.candidates .one)) * 4,
        a.setPending .one (a.pending .one ||| ~~~(oneBit (ctz32 (a.candidates .one))))⟩) ∨
    (¬ ctz32 (a.candidates .zero) < 32 ∧ ¬ ctz32 (a.candidates .one) < 32 ∧ scanBanks a = ⟨false, 0, a⟩) := by
  rw [scanBanks_eq]
  by_cases h0 : ctz32 (a.candidates .zero) < 32
  · left
    rw [scanBank_win ⟨false, 0, a⟩ .zero rfl h0, scanBank_skip _ .one (.inl rfl)]
    exact ⟨h0, by simp only [Bank.num, Nat.zero_mul, Nat.zero_add]⟩
  · right
    rw [scanBank_skip ⟨false, 0, a⟩ .zero (.inr h0)]
    by_cases h1 : ctz32 (a.candidates .one) < 32
    · left
      rw [scanBank_win ⟨false, 0, a⟩ .one rfl h1]
      exact ⟨h0, h1, by simp only [Bank.num, Nat.one_mul]⟩
    · right
      rw [scanBank_skip ⟨false, 0, a⟩ .one (.inr h1)]
      exact ⟨h0, h1, rfl⟩

/-! FIFO primitives -/

theorem fifoPush_length_le (depth : Nat) (q : List Byte) (b : Byte) (h : q.length ≤ depth) :
    (fifoPush depth q b).length ≤ depth := by
  unfold fifoPush fifoFull
  by_cases hf : depth ≤ q.length <;> simp [hf] <;> omega

theorem fifoPop_snd (q : List Byte) : (fifoPop q).2 = q.drop 1 := by cases q <;> rfl

/-- The RXDATA loop leaves the FIFO without its first `n` bytes. -/
theorem popWord_snd (n k : Nat) (r : Word) (q : List Byte) : (popWord n k r q).2 = q.drop n := by
  induction n generalizing k r q with
  | zero => rfl
  | succ n ih =>
    cases q with
    | nil => simp [popWord, fifoPop, ih]
    | cons b rest => simp [popWord, fifoPop, ih]

/-! The chip-select protocol -/

/-- The four raising drives: every line high, one event a line in order. -/
theorem raiseCs_eq (s : State) :
    s.raiseCs = { s with
      spi := { s.spi with csLine := Vector.replicate 4 true }
      events := s.events ++ [.cs 0 true, .cs 1 true, .cs 2 true, .cs 3 true] } := by
  have hl : (((s.spi.csLine.set 0 true).set 1 true).set 2 true).set 3 true = Vector.replicate 4 true := by
    ext i hi
    match i, hi with
    | 0, _ | 1, _ | 2, _ | 3, _ => simp
  simp only [State.raiseCs, List.foldl, State.driveCs, State.emit, State.withSpi]
  simp only [show ((0 : BitVec 2)).toNat = 0 from rfl, show ((1 : BitVec 2)).toNat = 1 from rfl,
    show ((2 : BitVec 2)).toNat = 2 from rfl, show ((3 : BitVec 2)).toNat = 3 from rfl, hl,
    List.append_assoc, List.cons_append, List.nil_append]

/-- A request equal to the current state drives nothing. -/
theorem updateCs_same (s : State) (index : CsIndex) (level : Bool)
    (h : index = s.spi.csIndex ∧ level = s.spi.csLevel) : s.updateCs index level = s := by
  simp [State.updateCs, h]

/-- Any other request raises the four lines, drives the requested one and stores index and level. -/
theorem updateCs_change (s : State) (index : CsIndex) (level : Bool)
    (h : ¬(index = s.spi.csIndex ∧ level = s.spi.csLevel)) :
    s.updateCs index level = (s.raiseCs.driveSelected index level).storeCs index level := by
  unfold State.updateCs
  rw [if_neg h]

/-! The burst -/

/-- What exchanges never touch. -/
theorem exchanges_frame (n i : Nat) (s : State) :
    (State.exchanges n i s).ia = s.ia ∧ (State.exchanges n i s).params = s.params ∧
    (State.exchanges n i s).inputs = s.inputs ∧ (State.exchanges n i s).result = s.result ∧
    (State.exchanges n i s).draws = s.draws ∧
    (State.exchanges n i s).spi.csIndex = s.spi.csIndex ∧
    (State.exchanges n i s).spi.csLevel = s.spi.csLevel ∧
    (State.exchanges n i s).spi.csLine = s.spi.csLine ∧
    (State.exchanges n i s).spi.startBurst = s.spi.startBurst ∧
    (State.exchanges n i s).spi.burstBytes = s.spi.burstBytes ∧
    (State.exchanges n i s).spi.sendBytes = s.spi.sendBytes := by
  induction n generalizing i s with
  | zero => simp [State.exchanges]
  | succ n ih => simpa [State.exchanges, State.exchange] using ih (i + 1) (s.exchange i)

/-- An exchange keeps the RX FIFO within its capacity, and takes at most one byte from the TX FIFO. -/
theorem exchange_fifos (i : Nat) (s : State) (h : s.spi.rxFifo.length ≤ s.params.fifoDepth) :
    (s.exchange i).spi.rxFifo.length ≤ s.params.fifoDepth ∧
    (s.exchange i).spi.txFifo.length ≤ s.spi.txFifo.length := by
  constructor
  · exact fifoPush_length_le _ _ _ h
  · unfold State.exchange nextOut
    by_cases hi : i < s.spi.sendBytes.toNat <;> simp [hi, fifoPop_snd]

end Sys2Proof.Machine
end

