-- ==== Sys2Proof/Laws/PerInstr.lean ====
section
/-! SUPPORT. Per-request families: what holds of each row of the opcode table as syntax. -/

namespace Sys2Proof.Laws

/-- Bit 31 of a request's descriptor names its block, whatever its operands (R91). -/
def DescriptorUnit.Statement (i : Instr) : Prop := (encode i).block = i.block

/-- A packet whose descriptor has bit 31 clear is for the IA. -/
theorem block_ia (p : Packet) (d : Word) (hp : p.desc = d) (h : d.getLsbD 31 = false) : p.block = .ia := by
  simp only [Packet.block, hp, h, Bool.false_eq_true, if_false]

/-- A packet whose descriptor has bit 31 set is for the SPI. -/
theorem block_spi (p : Packet) (d : Word) (hp : p.desc = d) (h : d.getLsbD 31 = true) : p.block = .spi := by
  simp only [Packet.block, hp, h, if_true]

/-- The unit-and-kind bits of an undefined-offset packet are the ones given. -/
theorem atOffset_block (unitKind offset : Word) :
    (atOffset unitKind offset).block = if unitKind.getLsbD 31 then .spi else .ia := by
  simp [Packet.block, atOffset, bare]

theorem DescriptorUnit.iaRVector : DescriptorUnit.Statement (.iaRVector) :=
  block_ia _ 0x00000000 rfl rfl
theorem DescriptorUnit.iaRBaseAddr : DescriptorUnit.Statement (.iaRBaseAddr) :=
  block_ia _ 0x00000004 rfl rfl
theorem DescriptorUnit.iaRNmiCtl : DescriptorUnit.Statement (.iaRNmiCtl) :=
  block_ia _ 0x0000000C rfl rfl
theorem DescriptorUnit.iaRPending0 : DescriptorUnit.Statement (.iaRPending0) :=
  block_ia _ 0x00000010 rfl rfl
theorem DescriptorUnit.iaRPending1 : DescriptorUnit.Statement (.iaRPending1) :=
  block_ia _ 0x00000014 rfl rfl
theorem DescriptorUnit.iaREnable0 : DescriptorUnit.Statement (.iaREnable0) :=
  block_ia _ 0x00000020 rfl rfl
theorem DescriptorUnit.iaREnable1 : DescriptorUnit.Statement (.iaREnable1) :=
  block_ia _ 0x00000024 rfl rfl
theorem DescriptorUnit.iaRMask0 : DescriptorUnit.Statement (.iaRMask0) :=
  block_ia _ 0x00000030 rfl rfl
theorem DescriptorUnit.iaRMask1 : DescriptorUnit.Statement (.iaRMask1) :=
  block_ia _ 0x00000034 rfl rfl
theorem DescriptorUnit.iaRUndef (offset : Word) : DescriptorUnit.Statement (.iaRUndef offset) :=
  atOffset_block _ _
theorem DescriptorUnit.iaWVector (value : Word) : DescriptorUnit.Statement (.iaWVector value) :=
  block_ia _ 0x10000000 rfl rfl
theorem DescriptorUnit.iaWBaseAddr (value : Word) : DescriptorUnit.Statement (.iaWBaseAddr value) :=
  block_ia _ 0x10000004 rfl rfl
theorem DescriptorUnit.iaWNmiCtl (value : Word) : DescriptorUnit.Statement (.iaWNmiCtl value) :=
  block_ia _ 0x1000000C rfl rfl
theorem DescriptorUnit.iaWPending0 (value : Word) : DescriptorUnit.Statement (.iaWPending0 value) :=
  block_ia _ 0x10000010 rfl rfl
theorem DescriptorUnit.iaWPending1 (value : Word) : DescriptorUnit.Statement (.iaWPending1 value) :=
  block_ia _ 0x10000014 rfl rfl
theorem DescriptorUnit.iaWEnable0 (value : Word) : DescriptorUnit.Statement (.iaWEnable0 value) :=
  block_ia _ 0x10000020 rfl rfl
theorem DescriptorUnit.iaWEnable1 (value : Word) : DescriptorUnit.Statement (.iaWEnable1 value) :=
  block_ia _ 0x10000024 rfl rfl
theorem DescriptorUnit.iaWMask0 (value : Word) : DescriptorUnit.Statement (.iaWMask0 value) :=
  block_ia _ 0x10000030 rfl rfl
theorem DescriptorUnit.iaWMask1 (value : Word) : DescriptorUnit.Statement (.iaWMask1 value) :=
  block_ia _ 0x10000034 rfl rfl
theorem DescriptorUnit.iaWUndef (offset value : Word) : DescriptorUnit.Statement (.iaWUndef offset value) :=
  atOffset_block _ _
theorem DescriptorUnit.iaLine (line : BitVec 6) (level : Bool) : DescriptorUnit.Statement (.iaLine line level) :=
  block_ia _ ((0x20000000 : Word) ||| ((BitVec.ofBool level).setWidth 32 <<< 8 : Word) ||| (line.setWidth 32 : Word)) rfl
    (by simp)
theorem DescriptorUnit.iaReset : DescriptorUnit.Statement (.iaReset) :=
  block_ia _ 0x30000000 rfl rfl
theorem DescriptorUnit.spiRGlbCtl (size : Byte) : DescriptorUnit.Statement (.spiRGlbCtl size) :=
  block_spi _ 0x80000004 rfl rfl
theorem DescriptorUnit.spiRTfrCtl (size : Byte) : DescriptorUnit.Statement (.spiRTfrCtl size) :=
  block_spi _ 0x80000008 rfl rfl
theorem DescriptorUnit.spiRIntCtl (size : Byte) : DescriptorUnit.Statement (.spiRIntCtl size) :=
  block_spi _ 0x80000010 rfl rfl
theorem DescriptorUnit.spiRFifoCtl (size : Byte) : DescriptorUnit.Statement (.spiRFifoCtl size) :=
  block_spi _ 0x80000018 rfl rfl
theorem DescriptorUnit.spiRFifoSta (size : Byte) : DescriptorUnit.Statement (.spiRFifoSta size) :=
  block_spi _ 0x8000001C rfl rfl
theorem DescriptorUnit.spiRClkCtl (size : Byte) : DescriptorUnit.Statement (.spiRClkCtl size) :=
  block_spi _ 0x80000024 rfl rfl
theorem DescriptorUnit.spiRBurstCnt (size : Byte) : DescriptorUnit.Statement (.spiRBurstCnt size) :=
  block_spi _ 0x80000030 rfl rfl
theorem DescriptorUnit.spiRSendCnt (size : Byte) : DescriptorUnit.Statement (.spiRSendCnt size) :=
  block_spi _ 0x80000034 rfl rfl
theorem DescriptorUnit.spiRBurstCtl (size : Byte) : DescriptorUnit.Statement (.spiRBurstCtl size) :=
  block_spi _ 0x80000038 rfl rfl
theorem DescriptorUnit.spiRTxdata (size : Byte) : DescriptorUnit.Statement (.spiRTxdata size) :=
  block_spi _ 0x80000200 rfl rfl
theorem DescriptorUnit.spiRRxdata (size : Byte) : DescriptorUnit.Statement (.spiRRxdata size) :=
  block_spi _ 0x80000300 rfl rfl
theorem DescriptorUnit.spiRUndef (offset : Word) (size : Byte) : DescriptorUnit.Statement (.spiRUndef offset size) :=
  atOffset_block _ _
theorem DescriptorUnit.spiWGlbCtl (value : Word) (size : Byte) : DescriptorUnit.Statement (.spiWGlbCtl value size) :=
  block_spi _ 0x90000004 rfl rfl
theorem DescriptorUnit.spiWTfrCtl (value : Word) (size : Byte) : DescriptorUnit.Statement (.spiWTfrCtl value size) :=
  block_spi _ 0x90000008 rfl rfl
theorem DescriptorUnit.spiWIntCtl (value : Word) (size : Byte) : DescriptorUnit.Statement (.spiWIntCtl value size) :=
  block_spi _ 0x90000010 rfl rfl
theorem DescriptorUnit.spiWFifoCtl (value : Word) (size : Byte) : DescriptorUnit.Statement (.spiWFifoCtl value size) :=
  block_spi _ 0x90000018 rfl rfl
theorem DescriptorUnit.spiWFifoSta (value : Word) (size : Byte) : DescriptorUnit.Statement (.spiWFifoSta value size) :=
  block_spi _ 0x9000001C rfl rfl
theorem DescriptorUnit.spiWClkCtl (value : Word) (size : Byte) : DescriptorUnit.Statement (.spiWClkCtl value size) :=
  block_spi _ 0x90000024 rfl rfl
theorem DescriptorUnit.spiWBurstCnt (value : Word) (size : Byte) : DescriptorUnit.Statement (.spiWBurstCnt value size) :=
  block_spi _ 0x90000030 rfl rfl
theorem DescriptorUnit.spiWSendCnt (value : Word) (size : Byte) : DescriptorUnit.Statement (.spiWSendCnt value size) :=
  block_spi _ 0x90000034 rfl rfl
theorem DescriptorUnit.spiWBurstCtl (value : Word) (size : Byte) : DescriptorUnit.Statement (.spiWBurstCtl value size) :=
  block_spi _ 0x90000038 rfl rfl
theorem DescriptorUnit.spiWTxdata (value : Word) (size : Byte) : DescriptorUnit.Statement (.spiWTxdata value size) :=
  block_spi _ 0x90000200 rfl rfl
theorem DescriptorUnit.spiWRxdata (value : Word) (size : Byte) : DescriptorUnit.Statement (.spiWRxdata value size) :=
  block_spi _ 0x90000300 rfl rfl
theorem DescriptorUnit.spiWUndef (offset value : Word) (size : Byte) : DescriptorUnit.Statement (.spiWUndef offset value size) :=
  atOffset_block _ _
theorem DescriptorUnit.spiReset : DescriptorUnit.Statement (.spiReset) :=
  block_spi _ 0xB0000000 rfl rfl

end Sys2Proof.Laws
end

