-- ==== Sys2Proof/Tests/Slice0.lean ====
section
/-! SUPPORT. Tests of this sitting: the well-formedness smoke, one decoding per constructor from words written out
from the spec's tables (30_encoding.md R91 to R97), one step per request from the spec's vectors
(95_test_vectors.md), and one witness per statement that has hypotheses. -/

namespace Sys2Proof.Tests

open Sys2Proof.Machine

/-! Helpers -/

/-- The next state, if there is one. -/
def nextOf (o : Host.Outcome State Fault Refusal) : Option State :=
  match o with
  | .next s => some s
  | .fault _ => none
  | .refused _ => none

/-- The refusal, if there is one. -/
def refusalOf (o : Host.Outcome State Fault Refusal) : Option Refusal :=
  match o with
  | .next _ => none
  | .fault _ => none
  | .refused r => some r

/-- Reset, with bank registers of the IA. -/
def iaState (p0 p1 e0 e1 m0 m1 : Word) : State :=
  { State.reset with ia := { Ia.initial with
      pending0 := p0, pending1 := p1, enable0 := e0, enable1 := e1, mask0 := m0, mask1 := m1 } }

/-- Reset, with SPI registers and a device. -/
def spiState (tx rx : List Byte) (burst send : Byte) (d : Downstream) : State :=
  { State.reset with
      spi := { Spi.initial with txFifo := tx, rxFifo := rx, burstBytes := burst, sendBytes := send }
      device := d }

/-- `CSx4` of 95_test_vectors.md. -/
def csx4 : List Event := [.cs 0 true, .cs 1 true, .cs 2 true, .cs 3 true]

/-- Vector, output, pending words and events after a request (the fields an IA vector names). -/
def iaView (o : Host.Outcome State Fault Refusal) : Option (Word × Bool × Word × Word × List Event) :=
  (nextOf o).map fun s => (s.ia.vector, s.ia.irqOut, s.ia.pending0, s.ia.pending1, s.events)

/-- What an SPI vector names: TX FIFO, RX FIFO, chip-select registers, lines and events. -/
structure SpiView where
  tx : List Byte
  rx : List Byte
  index : CsIndex
  level : Bool
  lines : List Bool
  events : List Event
deriving DecidableEq, Repr

/-- The view of the state after a request. -/
def spiView (o : Host.Outcome State Fault Refusal) : Option SpiView :=
  (nextOf o).map fun s =>
    { tx := s.spi.txFifo, rx := s.spi.rxFifo, index := s.spi.csIndex, level := s.spi.csLevel
      lines := s.spi.csLine.toList, events := s.events }

/-- The value a read returned, and the events. -/
def readView (o : Host.Outcome State Fault Refusal) : Option (Option Word × List Event) :=
  (nextOf o).map fun s => (s.result, s.events)

/-! The domain checks refuse ill-formed terms (R16, R77) -/

theorem test_wf_line_41 : Instr.wf (.iaLine 41 true) = false := by decide
theorem test_wf_line_40 : Instr.wf (.iaLine 40 true) = true := by decide
theorem test_wf_size_0 : Instr.wf (.spiRFifoSta 0) = false := by decide
theorem test_wf_size_5 : Instr.wf (.spiRFifoSta 5) = false := by decide
theorem test_wf_value_too_wide : Instr.wf (.spiWTfrCtl 0x100 1) = false := by decide
theorem test_wf_value_fits : Instr.wf (.spiWTfrCtl 0xFFFFFFFF 4) = true := by decide
theorem test_wf_ia_defined_offset : Instr.wf (.iaRUndef 0x34) = false := by decide
theorem test_wf_spi_defined_offset : Instr.wf (.spiWUndef 0x300 0 1) = false := by decide

/-! Every constructor's decoding, from its row of R96 or R97 and the operand lanes -/

theorem test_decode_iaRVector : decodeTableWord 32 0x00000000 = some .iaRVector := by decide
theorem test_decode_iaRBaseAddr : decodeTableWord 32 0x00000004 = some .iaRBaseAddr := by decide
theorem test_decode_iaRNmiCtl : decodeTableWord 32 0x0000000C = some .iaRNmiCtl := by decide
theorem test_decode_iaRPending0 : decodeTableWord 32 0x00000010 = some .iaRPending0 := by decide
theorem test_decode_iaRPending1 : decodeTableWord 32 0x00000014 = some .iaRPending1 := by decide
theorem test_decode_iaREnable0 : decodeTableWord 32 0x00000020 = some .iaREnable0 := by decide
theorem test_decode_iaREnable1 : decodeTableWord 32 0x00000024 = some .iaREnable1 := by decide
theorem test_decode_iaRMask0 : decodeTableWord 32 0x00000030 = some .iaRMask0 := by decide
theorem test_decode_iaRMask1 : decodeTableWord 32 0x00000034 = some .iaRMask1 := by decide
theorem test_decode_iaRUndef : decodeTableWord 32 0x00000304 = some (.iaRUndef 0x304) := by decide
theorem test_decode_iaWVector : decodeTableWord 64 0x89ABCDEF10000000 = some (.iaWVector 0x89ABCDEF) := by decide
theorem test_decode_iaWBaseAddr : decodeTableWord 64 0x89ABCDEF10000004 = some (.iaWBaseAddr 0x89ABCDEF) := by decide
theorem test_decode_iaWNmiCtl : decodeTableWord 64 0x89ABCDEF1000000C = some (.iaWNmiCtl 0x89ABCDEF) := by decide
theorem test_decode_iaWPending0 : decodeTableWord 64 0x89ABCDEF10000010 = some (.iaWPending0 0x89ABCDEF) := by decide
theorem test_decode_iaWPending1 : decodeTableWord 64 0x89ABCDEF10000014 = some (.iaWPending1 0x89ABCDEF) := by decide
theorem test_decode_iaWEnable0 : decodeTableWord 64 0x89ABCDEF10000020 = some (.iaWEnable0 0x89ABCDEF) := by decide
theorem test_decode_iaWEnable1 : decodeTableWord 64 0x89ABCDEF10000024 = some (.iaWEnable1 0x89ABCDEF) := by decide
theorem test_decode_iaWMask0 : decodeTableWord 64 0x89ABCDEF10000030 = some (.iaWMask0 0x89ABCDEF) := by decide
theorem test_decode_iaWMask1 : decodeTableWord 64 0x89ABCDEF10000034 = some (.iaWMask1 0x89ABCDEF) := by decide
theorem test_decode_iaWUndef : decodeTableWord 64 0x89ABCDEF10000304 = some (.iaWUndef 0x304 0x89ABCDEF) := by decide
theorem test_decode_iaLine : decodeTableWord 32 0x20000128 = some (.iaLine 40 true) := by decide
theorem test_decode_iaReset : decodeTableWord 32 0x30000000 = some .iaReset := by decide
theorem test_decode_spiRGlbCtl : decodeTableWord 72 0x020000000080000004 = some (.spiRGlbCtl 3) := by decide
theorem test_decode_spiRTfrCtl : decodeTableWord 72 0x020000000080000008 = some (.spiRTfrCtl 3) := by decide
theorem test_decode_spiRIntCtl : decodeTableWord 72 0x020000000080000010 = some (.spiRIntCtl 3) := by decide
theorem test_decode_spiRFifoCtl : decodeTableWord 72 0x020000000080000018 = some (.spiRFifoCtl 3) := by decide
theorem test_decode_spiRFifoSta : decodeTableWord 72 0x02000000008000001C = some (.spiRFifoSta 3) := by decide
theorem test_decode_spiRClkCtl : decodeTableWord 72 0x020000000080000024 = some (.spiRClkCtl 3) := by decide
theorem test_decode_spiRBurstCnt : decodeTableWord 72 0x020000000080000030 = some (.spiRBurstCnt 3) := by decide
theorem test_decode_spiRSendCnt : decodeTableWord 72 0x020000000080000034 = some (.spiRSendCnt 3) := by decide
theorem test_decode_spiRBurstCtl : decodeTableWord 72 0x020000000080000038 = some (.spiRBurstCtl 3) := by decide
theorem test_decode_spiRTxdata : decodeTableWord 72 0x020000000080000200 = some (.spiRTxdata 3) := by decide
theorem test_decode_spiRRxdata : decodeTableWord 72 0x020000000080000300 = some (.spiRRxdata 3) := by decide
theorem test_decode_spiRUndef : decodeTableWord 72 0x020000000080000304 = some (.spiRUndef 0x304 3) := by decide
theorem test_decode_spiWGlbCtl : decodeTableWord 72 0x0289ABCDEF90000004 = some (.spiWGlbCtl 0x89ABCDEF 3) := by decide
theorem test_decode_spiWTfrCtl : decodeTableWord 72 0x0289ABCDEF90000008 = some (.spiWTfrCtl 0x89ABCDEF 3) := by decide
theorem test_decode_spiWIntCtl : decodeTableWord 72 0x0289ABCDEF90000010 = some (.spiWIntCtl 0x89ABCDEF 3) := by decide
theorem test_decode_spiWFifoCtl : decodeTableWord 72 0x0289ABCDEF90000018 = some (.spiWFifoCtl 0x89ABCDEF 3) := by decide
theorem test_decode_spiWFifoSta : decodeTableWord 72 0x0289ABCDEF9000001C = some (.spiWFifoSta 0x89ABCDEF 3) := by decide
theorem test_decode_spiWClkCtl : decodeTableWord 72 0x0289ABCDEF90000024 = some (.spiWClkCtl 0x89ABCDEF 3) := by decide
theorem test_decode_spiWBurstCnt : decodeTableWord 72 0x0289ABCDEF90000030 = some (.spiWBurstCnt 0x89ABCDEF 3) := by decide
theorem test_decode_spiWSendCnt : decodeTableWord 72 0x0289ABCDEF90000034 = some (.spiWSendCnt 0x89ABCDEF 3) := by decide
theorem test_decode_spiWBurstCtl : decodeTableWord 72 0x0289ABCDEF90000038 = some (.spiWBurstCtl 0x89ABCDEF 3) := by decide
theorem test_decode_spiWTxdata : decodeTableWord 72 0x0289ABCDEF90000200 = some (.spiWTxdata 0x89ABCDEF 3) := by decide
theorem test_decode_spiWRxdata : decodeTableWord 72 0x0289ABCDEF90000300 = some (.spiWRxdata 0x89ABCDEF 3) := by decide
theorem test_decode_spiWUndef : decodeTableWord 72 0x0289ABCDEF90000304 = some (.spiWUndef 0x304 0x89ABCDEF 3) := by decide
theorem test_decode_spiReset : decodeTableWord 32 0xB0000000 = some .spiReset := by decide

/-- An offset of 2^28 or more decodes to the fallback row with all its bits (R91). -/
theorem test_decode_high_offset : decodeTableWord 80 0x0F000000000090000008 = some (.spiWUndef 0xF0000008 0 1) := by
  decide

/-- Kinds 100 to 111, LINE to the SPI, reserved LINE and RESET bits name no request (R91 to R93). -/
theorem test_decode_refuses : decodeTableWord 32 0x40000000 = none ∧ decodeTableWord 32 0xF0000000 = none ∧
    decodeTableWord 32 0xA0000000 = none ∧ decodeTableWord 32 0x20000040 = none ∧
    decodeTableWord 32 0x20000200 = none ∧ decodeTableWord 32 0x30000001 = none := by decide

/-- A LINE or RESET descriptor with a non-zero offset lane beside it: the model's choice (log entry 20). -/
theorem test_decode_refuses_lane : decode { bare 0x20000105 with offHi := 1 } = .error .lineReservedBits ∧
    decode { bare 0x30000000 with offHi := 15 } = .error .resetReservedBits := ⟨rfl, rfl⟩

/-- The rows of R96 and R97 with the full mask do not overlap. -/
theorem test_exact_rows_distinct : ((exactRows 0 0).map Prod.fst).Nodup := by decide

/-! One step per request -/

/-- V-IA-03's last write, as a step: the fetch, the decode and the meaning. -/
theorem test_step_write : iaView (step ((iaState 0 0 0xFFFFFFFF 0 0 0).withFetchWord 64 0xFFFFF3FF10000010)) =
    some (0x28, true, 0xFFFFFFFF, 0, [.irq true]) := by decide

/-- The host's first step after reset, on a table word. -/
theorem test_step_reset_word : iaView (step (State.reset.withFetchWord 32 0x20000105)) =
    some (0, false, 0x20, 0, [.irq false]) := by decide

/-- V-IA-20: LINE 41 is refused. -/
theorem test_step_line_41 : refusalOf (step (State.reset.withFetchWord 32 0x20000129)) =
    some (.lineOutOfRange 41) := by decide

/-- V-SPI-31: size 5 is refused. -/
theorem test_step_size_5 : refusalOf (step (State.reset.withFetchWord 72 0x04000000008000001C)) =
    some (.sizeOutOfRange 5) := by decide

theorem test_line_selects : iaView (exec (.iaLine 5 true) (iaState 0 0 0x20 0 0 0)) =
    some (0x14, true, 0xFFFFFFFF, 0, [.irq true]) := by decide

/-- V-IA-10: the cleared bit, then line 0 through the flood. -/
theorem test_line_clears : iaView (exec (.iaLine 5 false) (iaState 0xFFFFFFFF 0 0x21 0 0 0)) =
    some (0, false, 0xFFFFFFFF, 0, [.irq false]) := by decide

/-- R119's example: line 40 is bit 8 of bank 1. -/
theorem test_line_bank_one : iaView (exec (.iaLine 40 true) State.reset) =
    some (0, false, 0, 0x100, [.irq false]) := by decide

/-- V-IA-15 and V-IA-16: the ignored VECTOR write under both values of the parameter. -/
theorem test_w_vector : iaView (exec (.iaWVector 0x40) (iaState 0xFFFFFFFF 0 0x21 0 0 0)) =
    some (0, false, 0xFFFFFFFF, 0, []) := by decide
theorem test_w_vector_recomputes : iaView (exec (.iaWVector 0x40)
      { iaState 0x40 0 0x40 0 0 0 with params := { Params.default with recomputeOnIgnoredWrite := true } }) =
    some (0x18, true, 0xFFFFFFFF, 0, [.irq true]) := by decide

/-- V-IA-14. -/
theorem test_w_base_addr : (nextOf (exec (.iaWBaseAddr 0x12345677) State.reset)).map (fun s => s.ia.baseAddr) =
    some 0x12345674 := by decide

/-- V-IA-09's NMI_CTL write: the recompute is not idempotent. -/
theorem test_w_nmi_ctl : iaView (exec (.iaWNmiCtl 0) (iaState 0xFFFFFFFF 0 0x21 0 0 0)) =
    some (0, false, 0xFFFFFFFF, 0, [.irq false]) := by decide

/-- L1-2's instance, and V-IA-12's "clear bit 5" that selects line 6. -/
theorem test_w_pending0 : iaView (exec (.iaWPending0 0x12345678) State.reset) =
    some (0, false, 0xEDCBA987, 0, [.irq false]) := by decide
theorem test_w_pending0_flood : iaView (exec (.iaWPending0 0x20) (iaState 0xFFFFFFFF 0 0x60 0 0 0)) =
    some (0x18, true, 0xFFFFFFFF, 0, [.irq true]) := by decide

/-- V-IA-08: the unwired line 63. -/
theorem test_w_pending1 : iaView (exec (.iaWPending1 0x7FFFFFFF) (iaState 0 0 0 0x80000000 0 0)) =
    some (0xFC, true, 0, 0xFFFFFFFF, [.irq true]) := by decide

/-- V-IA-05's ENABLE0 write and V-IA-07's corner: a bank-0 candidate, line 0, hides bank 1. -/
theorem test_w_enable0 : iaView (exec (.iaWEnable0 0x8) (iaState 0 0xFFFFFFFF 0 1 0 0)) =
    some (0x80, true, 0, 0xFFFFFFFF, [.irq true]) := by decide
theorem test_w_enable0_line_zero : iaView (exec (.iaWEnable0 0x1) (iaState 1 1 0 1 0 0)) =
    some (0, false, 0xFFFFFFFF, 1, [.irq false]) := by decide

/-- R131's and R133's examples. -/
theorem test_w_enable1 : iaView (exec (.iaWEnable1 0x2) (iaState 0 2 0 0 0 0)) =
    some (0x84, true, 0, 0xFFFFFFFF, [.irq true]) := by decide
theorem test_w_mask1 : iaView (exec (.iaWMask1 0x2) (iaState 0 0xFFFFFFFF 0 2 0 0)) =
    some (0, false, 0, 0xFFFFFFFF, [.irq false]) := by decide

/-- L1-3's last write. -/
theorem test_w_mask0 : iaView (exec (.iaWMask0 0x20) (iaState 0xFFFFFFFF 0 0x20 0 0 0)) =
    some (0, false, 0xFFFFFFFF, 0, [.irq false]) := by decide

/-- V-IA-17, parameter true: the report comes before the recompute. -/
theorem test_w_undef : iaView (exec (.iaWUndef 0x08 1)
      { iaState 0xFFFFFFFF 0 0x21 0 0 0 with params := { Params.default with recomputeOnIgnoredWrite := true } }) =
    some (0, false, 0xFFFFFFFF, 0, [.diag .ia .write 0x08, .irq false]) := by decide

/-- V-IA-17's read. -/
theorem test_r_undef : readView (exec (.iaRUndef 0x18) State.reset) =
    some (some 0, [.diag .ia .read 0x18]) := by decide

/-- Each IA read names its own register. -/
theorem test_ia_reads :
    [Instr.iaRVector, .iaRBaseAddr, .iaRNmiCtl, .iaRPending0, .iaRPending1, .iaREnable0, .iaREnable1, .iaRMask0,
      .iaRMask1].map (fun i => readView (exec i { State.reset with ia :=
        { pending0 := 1, pending1 := 2, enable0 := 3, enable1 := 4, mask0 := 5, mask1 := 6, vector := 8
          baseAddr := 12, nmiCtl := 7, irqOut := true } })) =
    [8, 12, 7, 1, 2, 3, 4, 5, 6].map (fun v => some (some v, [])) := by decide

/-- V-IA-19's reset. -/
theorem test_ia_reset : iaView (exec .iaReset (iaState 0xFFFFFFFF 0 0x20 0 0 0)) =
    some (0, false, 0, 0, [.irq false]) := by decide

/-- V-SPI-01 and V-SPI-04's TFR_CTL reads. -/
theorem test_r_tfr_ctl : readView (exec (.spiRTfrCtl 4) State.reset) = some (some 0x80, []) := by decide
theorem test_r_tfr_ctl_line : readView (exec (.spiRTfrCtl 1)
    { State.reset with spi := { Spi.initial with csIndex := some 3 } }) = some (some 0xB0, []) := by decide

/-- V-SPI-20 and V-SPI-21. -/
theorem test_r_fifo_sta : readView (exec (.spiRFifoSta 4) (spiState [1, 2, 3] [1, 2, 3, 4, 5] 0 0 .echo)) =
    some (some 0x00030005, []) := by decide
theorem test_r_fifo_sta_masks : fifoStaWord 128 127 = 0x007F0000 := by decide

/-- The reads that return 0 (V-SPI-28), and those of the counters (V-SPI-27). -/
theorem test_spi_reads_zero :
    [Instr.spiRGlbCtl 4, .spiRIntCtl 4, .spiRFifoCtl 4, .spiRClkCtl 4, .spiRTxdata 4].map
      (fun i => readView (exec i (spiState [0x11] [0x22] 5 3 .echo))) =
    List.replicate 5 (some (some 0, [])) := by decide
theorem test_spi_reads_counters :
    [Instr.spiRBurstCnt 4, .spiRSendCnt 4, .spiRBurstCtl 4].map
      (fun i => readView (exec i (spiState [] [] 5 9 .echo))) =
    [5, 9, 9].map (fun v => some (some v, [])) := by decide

/-- V-SPI-22's two-byte read and V-SPI-23's short read. -/
theorem test_r_rxdata : (nextOf (exec (.spiRRxdata 2) (spiState [] [0x22, 0x33, 0x44] 0 0 .echo))).map
    (fun s => (s.result, s.spi.rxFifo)) = some (some 0x3322, [0x44]) := by decide
theorem test_r_rxdata_short : (nextOf (exec (.spiRRxdata 3) (spiState [] [0x44, 0x55] 0 0 .echo))).map
    (fun s => (s.result, s.spi.rxFifo)) = some (some 0x5544, []) := by decide

/-- V-SPI-29. -/
theorem test_spi_r_undef : readView (exec (.spiRUndef 0 4) State.reset) =
    some (some 0, [.diag .spi .read 0]) := by decide
theorem test_spi_w_undef : spiView (exec (.spiWUndef 0x0B 0x80 1) State.reset) =
    some ⟨[], [], some 0, true, [true, true, true, true], [.diag .spi .write 0x0B]⟩ := by decide

/-- The chip-select state V-SPI-40 and V-SPI-41 start from: line 2 selected and low. -/
def lineTwoLow : Spi :=
  { Spi.initial with
      csIndex := some 2, csLevel := false, csLine := csLevels 2 false, txFifo := [1], burstBytes := 5 }
/-- V-SPI-40: the `Drive` reset. -/
theorem test_w_glb_ctl : spiView (exec (.spiWGlbCtl 0x80000000 4) { State.reset with spi := lineTwoLow }) =
    some ⟨[], [], some 0, true, [true, true, true, true], csx4 ++ [.cs 0 true]⟩ := by decide
/-- V-SPI-41: the `Literal` reset. -/
theorem test_spi_reset_literal : spiView (exec .spiReset
      { State.reset with spi := lineTwoLow, params := { Params.default with resetCsMode := .literal } }) =
    some ⟨[], [], some 0, true, [true, true, false, true], []⟩ := by decide

/-- V-SPI-05's second write: line 1 goes up before line 2 goes down. -/
theorem test_w_tfr_ctl_moves : spiView (exec (.spiWTfrCtl 0x20 4) { State.reset with spi :=
      { Spi.initial with csIndex := some 1, csLevel := false, csLine := csLevels 1 false } }) =
    some ⟨[], [], some 2, false, [true, true, false, true], csx4 ++ [.cs 2 false]⟩ := by decide

/-- L1-4: the echo burst. -/
theorem test_w_tfr_ctl_echo : spiView (exec (.spiWTfrCtl 0x80000080 4) (spiState [0x11, 0x22, 0x33] [] 5 3 .echo)) =
    some ⟨[], [0x11, 0x22, 0x33, 0xFF, 0xFF], some 0, true, [true, true, true, true],
      csx4 ++ [.cs 0 false, .xfer 0x11 0x11, .xfer 0x22 0x22, .xfer 0x33 0x33, .xfer 0xFF 0xFF, .xfer 0xFF 0xFF]
        ++ csx4 ++ [.cs 0 true]⟩ := by decide

/-- V-SPI-24 and R178's example: bit 31 does nothing, bit 15 clears the RX FIFO. -/
theorem test_w_fifo_ctl : spiView (exec (.spiWFifoCtl 0x80008000 4) (spiState [0x11] [0x22] 0 0 .echo)) =
    some ⟨[0x11], [], some 0, true, [true, true, true, true], []⟩ := by decide

/-- V-SPI-26: the counters keep the low byte. -/
theorem test_w_burst_cnt : (nextOf (exec (.spiWBurstCnt 0x1FF 4) State.reset)).map
    (fun s => (s.spi.burstBytes, s.spi.sendBytes)) = some (0xFF, 0) := by decide
theorem test_w_send_cnt : (nextOf (exec (.spiWSendCnt 0x103 4) State.reset)).map
    (fun s => (s.spi.burstBytes, s.spi.sendBytes)) = some (0, 3) := by decide
theorem test_w_burst_ctl : (nextOf (exec (.spiWBurstCtl 9 4) State.reset)).map
    (fun s => (s.spi.burstBytes, s.spi.sendBytes)) = some (0, 9) := by decide

/-- V-SPI-25, and L1-6 with depth 2. -/
theorem test_w_txdata : (nextOf (exec (.spiWTxdata 0x44332211 4) State.reset)).map (fun s => s.spi.txFifo) =
    some [0x11] := by decide
/-- A full TX FIFO of depth 2. -/
def fullState : State := { spiState [1, 2] [] 0 0 .echo with params := { Params.default with fifoDepth := 2 } }
theorem test_w_txdata_full : (nextOf (exec (.spiWTxdata 3 1) fullState)).map
    (fun s => s.spi.txFifo) = some [1, 2] := by decide

/-- V-SPI-28's writes change nothing. -/
theorem test_spi_writes_without_effect :
    [Instr.spiWIntCtl 0xFFFFFFFF 4, .spiWFifoSta 0 4, .spiWClkCtl 1 4, .spiWRxdata 0x55 4].map
      (fun i => nextOf (exec i (spiState [0x11] [] 0 0 .echo))) =
    List.replicate 4 (some (spiState [0x11] [] 0 0 .echo)) := by decide

/-! Bursts of the spec's other devices (V-SPI-13, V-SPI-14, V-SPI-18) -/

/-- V-SPI-13: the later answers are dropped at depth 4. -/
theorem test_burst_overflow : spiView (exec (.spiWTfrCtl 0x80000080 4)
      { spiState [1, 2, 3, 4] [0xA0, 0xA1] 5 5 .echo with params := { Params.default with fifoDepth := 4 } }) =
    some ⟨[], [0xA0, 0xA1, 1, 2], some 0, true, [true, true, true, true],
      [.xfer 1 1, .xfer 2 2, .xfer 3 3, .xfer 4 4, .xfer 0xFF 0xFF]⟩ := by decide

/-- V-SPI-18: a device that answers 0x5A. -/
theorem test_burst_constant : spiView (exec (.spiWTfrCtl 0x80000080 4) (spiState [1] [] 2 1 (.constant 0x5A))) =
    some ⟨[], [0x5A, 0x5A], some 0, true, [true, true, true, true],
      csx4 ++ [.cs 0 false, .xfer 1 0x5A, .xfer 0xFF 0x5A] ++ csx4 ++ [.cs 0 true]⟩ := by decide

/-! Witnesses: a concrete state and operands that meet the hypotheses of each statement that has some -/

theorem witness_DecodeOfEncodeIsTheRequest : Instr.wf (.spiWUndef 0xFFFFFFFF 0xFFFF 2) = true ∧ Instr.wf (.iaLine 40 false) = true := by decide
theorem witness_DecodedRequestHasItsDescriptor : decode (bare 0x20000105) = .ok (.iaLine 5 true) := by rfl
theorem witness_UndefinedOffsetsDecodeToTheFallbackRows :
    ((bare 0x00000008).nested = false ∧ (bare 0x00000008).block = .ia ∧ (bare 0x00000008).kind = 0 ∧
      (bare 0x00000008).offset ∉ iaOffsets) ∧
    ((bare 0x1FFFFFFF).block = .ia ∧ (bare 0x1FFFFFFF).kind = 1 ∧ (bare 0x1FFFFFFF).offset ∉ iaOffsets) ∧
    ((bare 0x80000301).block = .spi ∧ (bare 0x80000301).kind = 0 ∧ (bare 0x80000301).offset ∉ spiOffsets) ∧
    ((atOffset 0x90000000 0xF0000008).block = .spi ∧ (atOffset 0x90000000 0xF0000008).kind = 1 ∧
      (atOffset 0x90000000 0xF0000008).offset ∉ spiOffsets) := by decide
theorem witness_ReservedDescriptorsAreRefused :
    ((State.reset.pushInput (bare 0x40000000)).inputs = bare 0x40000000 :: [] ∧ (bare 0x40000000).nested = false ∧
      4 ≤ (bare 0x40000000).kind.toNat ∧ 4 ≤ (bare 0xF0000000).kind.toNat) ∧
    ((bare 0xA0000000).kind = 2 ∧ (bare 0xA0000000).block = .spi) ∧
    ((bare 0x20000040).kind = 2 ∧ (bare 0x20000040).block = .ia ∧ (bare 0x20000040).desc &&& 0x0FFFFEC0 ≠ 0) ∧
    ((bare 0xB8000000).kind = 3 ∧ (bare 0xB8000000).desc &&& 0x0FFFFFFF ≠ 0) := by decide
theorem witness_RequestDuringTransferIsRefused :
    (State.reset.pushInput { bare 0x80000008 with nested := true }).inputs =
      { bare 0x80000008 with nested := true } :: [] ∧
    ({ bare 0x80000008 with nested := true } : Packet).nested = true := by decide
theorem witness_StepRunsTheDecodedRequest :
    (State.reset.pushInput (bare 0x30000000)).inputs = bare 0x30000000 :: [] ∧
    decode (bare 0x30000000) = .ok .iaReset := ⟨rfl, rfl⟩
theorem witness_StepWithoutRequestIsIdle : State.reset.inputs = [] := rfl
theorem witness_EveryRequestCompletes : Instr.wf (.spiRRxdata 4) = true ∧ 1 ≤ State.reset.params.fifoDepth := by decide
theorem witness_BlocksAreIndependent :
    (∃ t, exec .iaReset State.reset = .next t) ∧ Instr.block .iaReset = .ia ∧
    (∃ t, exec .spiReset State.reset = .next t) ∧ Instr.block .spiReset = .spi := ⟨⟨_, rfl⟩, rfl, ⟨_, rfl⟩, rfl⟩
theorem witness_RequestsKeepParametersAndOrder : ∃ t, exec (.spiWGlbCtl 0x80000000 4) State.reset = .next t := ⟨_, rfl⟩
theorem witness_OnlyABurstCallsTheDevice :
    (∃ t, exec (.spiWTfrCtl 0x30 4) State.reset = .next t) ∧
    ∀ value size, Instr.spiWTfrCtl 0x30 4 = .spiWTfrCtl value size → value.getLsbD 31 = false := by
  refine ⟨⟨_, rfl⟩, ?_⟩
  intro value size h
  cases h
  decide
theorem witness_RequestsOnlyAppendEvents : ∃ t, exec (.iaLine 0 true) State.reset = .next t := ⟨_, rfl⟩
theorem witness_ReportsExactlyAtUndefinedOffsets : (∃ t, exec (.iaRUndef 8) State.reset = .next t) ∧ State.reset.events = [] := ⟨⟨_, rfl⟩, rfl⟩
theorem witness_SizeChangesOnlyTheRxdataRead : wfSize 1 = true ∧ wfSize 4 = true := by decide
theorem witness_SizesOutsideOneToFourAreRefused :
    (accessSize (.spiRUndef 0 0) = some 0 ∧ ∀ off m, Instr.spiRUndef 0 0 = .spiRUndef off m → off ∉ spiOffsets) ∧
    (accessSize (.spiWUndef 0 0 5) = some 5 ∧ (4 < (5 : Byte).toNat) ∧
      ∀ off v m, Instr.spiWUndef 0 0 5 = .spiWUndef off v m → off ∉ spiOffsets) := by
  refine ⟨⟨rfl, ?_⟩, rfl, by decide, ?_⟩
  · intro off m h
    cases h
    decide
  · intro off v m h
    cases h
    decide
theorem witness_DepthZeroIsRefused :
    Instr.block (.spiRFifoSta 4) = .spi ∧ Instr.wf (.spiRFifoSta 4) = true ∧
    (State.construct { Params.default with fifoDepth := 0 } .echo).params.fifoDepth = 0 := by decide
theorem witness_Ctz32IsTheLowestSetBit : (0 : Word) = 0 ∧ (0x80000000 : Word) ≠ 0 := by decide
theorem witness_RecomputeObeysTheSelectionLaw :
    (1 : Word) = (iaState 1 2 3 2 2 0).ia.pending0 &&& (iaState 1 2 3 2 2 0).ia.enable0 &&&
      ~~~(iaState 1 2 3 2 2 0).ia.mask0 ∧
    (2 : Word) = (iaState 1 2 3 2 2 0).ia.pending1 &&& (iaState 1 2 3 2 2 0).ia.enable1 &&&
      ~~~(iaState 1 2 3 2 2 0).ia.mask1 := by decide
theorem witness_LowestNumberedCandidateWins :
    (iaState 0x20 0 0x20 0 0 0).ia.Lowest 5 ∧ (iaState 0 0x80000000 0 0x80000000 0 0).ia.Lowest 63 ∧
    (iaState 0x20 0 0x20 0 0x20 0).ia.NoCandidate := by
  unfold Ia.Lowest Ia.NoCandidate
  decide
theorem witness_SelectionFloodsTheWinningBank :
    (iaState 0x80000000 0 0x80000000 0 0 0).ia.Lowest 31 ∧ (iaState 0 1 0 1 0 0).ia.Lowest 32 ∧
    State.reset.ia.NoCandidate := by
  unfold Ia.Lowest Ia.NoCandidate
  decide
theorem witness_LineZeroWinsWithoutARequest : (iaState 1 1 1 1 0 0).ia.candidate 0 = true := by decide
theorem witness_LineNotificationSetsThePendingBit : (0 : BitVec 6).toNat ≤ 40 ∧ (40 : BitVec 6).toNat ≤ 40 := by decide
theorem witness_LinesAboveFortyAreRefused : 40 < (41 : BitVec 6).toNat ∧ 40 < (63 : BitVec 6).toNat := by decide
theorem witness_IgnoredAggregatorWrites :
    (State.reset.params.recomputeOnIgnoredWrite = false ∧ (0x08 : Word) ∉ iaOffsets) ∧
    (State.construct { Params.default with recomputeOnIgnoredWrite := true } .echo).params.recomputeOnIgnoredWrite
      = true := by decide
theorem witness_UndefinedReadsReturnZeroAndReport :
    1 ≤ State.reset.params.fifoDepth ∧ wfSize 1 = true ∧ (0x38 : Word) ∉ iaOffsets ∧ (0x304 : Word) ∉ spiOffsets := by decide
theorem witness_PendingReadsBackTheComplementUnlessSelected :
    (~~~(0x12345678 : Word) &&& State.reset.ia.enable0 &&& ~~~State.reset.ia.mask0 = 0) ∧
    (~~~(0xFFFFFFFE : Word) &&& (iaState 0 0 1 0 0 0).ia.enable0 &&& ~~~(iaState 0 0 1 0 0 0).ia.mask0 ≠ 0) := by decide
theorem witness_FifoPrimitivesKeepOrderAndDropOverflow : ([] : List Byte).length < 1 ∧ 1 ≤ [(7 : Byte)].length := by decide
theorem witness_ConstantAndCounterReads : 1 ≤ State.reset.params.fifoDepth ∧ wfSize 1 = true ∧ wfSize 4 = true := by decide
theorem witness_FifoStatusPacksTheOccupancies : 1 ≤ State.reset.params.fifoDepth ∧ wfSize 1 = true ∧ wfSize 4 = true := by decide
theorem witness_CounterWritesStoreTheLowByte : 1 ≤ State.reset.params.fifoDepth ∧ wfSize 1 = true ∧ wfSize 4 = true := by decide
theorem witness_FifoControlClearsOnlyTheRxFifo : 1 ≤ State.reset.params.fifoDepth ∧ wfSize 1 = true ∧ wfSize 4 = true := by decide
theorem witness_TransferControlReadsTheThreeFields :
    1 ≤ State.reset.params.fifoDepth ∧ wfSize 4 = true ∧
    State.reset.spi.csIndex = some 0 ∧ ({ Spi.initial with csIndex := none } : Spi).csIndex = none ∧
    (31 < 32 ∧ 31 ≠ 30) := by decide
theorem witness_RxdataReadPopsLittleEndian : 1 ≤ State.reset.params.fifoDepth ∧ wfSize 1 = true ∧ wfSize 4 = true ∧
    (0 < (1 : Byte).toNat) ∧ ((1 : Byte).toNat ≤ 3 ∧ 3 < 4) ∧ (3 < (4 : Byte).toNat) := by decide
theorem witness_TxdataWriteQueuesOneByte :
    (1 ≤ State.reset.params.fifoDepth ∧ wfSize 4 = true ∧
      State.reset.spi.txFifo.length < State.reset.params.fifoDepth) ∧
    (wfSize 1 = true ∧ 1 ≤ fullState.params.fifoDepth ∧
      fullState.params.fifoDepth ≤ fullState.spi.txFifo.length) := by decide
theorem witness_ControllerWritesWithoutEffect :
    1 ≤ State.reset.params.fifoDepth ∧ wfSize 1 = true ∧ (0x0B : Word) ∉ spiOffsets := by decide
theorem witness_ChipSelectProtocolDrivesOnlyOnChange :
    (some 0 = State.reset.spi.csIndex ∧ true = State.reset.spi.csLevel) ∧
    ¬(some 3 = State.reset.spi.csIndex ∧ true = State.reset.spi.csLevel) := by decide
theorem witness_ChipSelectProtocolWithoutALine : ¬(none = State.reset.spi.csIndex ∧ true = State.reset.spi.csLevel) := by decide
theorem witness_TransferControlWriteUpdatesTheChipSelect :
    1 ≤ State.reset.params.fifoDepth ∧ wfSize 4 = true ∧ (0x7FFFFFFF : Word).getLsbD 31 = false := by decide
theorem witness_BurstBracketsTheTransferWithChipSelect :
    (State.reset.spi.csIndex = some 0 ∧ State.reset.spi.burstBytes.toNat ≤ State.reset.spi.sendBytes.toNat) ∧
    ((spiState [] [] 1 0 .echo).spi.sendBytes.toNat < (spiState [] [] 1 0 .echo).spi.burstBytes.toNat ∧
      (spiState [] [] 1 0 .echo).spi.csLevel = true) ∧
    (lineTwoLow.csIndex = some 2 ∧ lineTwoLow.sendBytes.toNat < lineTwoLow.burstBytes.toNat ∧
      lineTwoLow.csLevel = false) := by decide
theorem witness_TransferControlWriteRunsTheBurst :
    1 ≤ State.reset.params.fifoDepth ∧ wfSize 4 = true ∧ (0x80000090 : Word).getLsbD 31 = true ∧
    (1 : BitVec 2) = (0x80000090 : Word).extractLsb' 4 2 ∧ true = (0x80000090 : Word).getLsbD 7 ∧
    false = decide (State.reset.spi.sendBytes.toNat < State.reset.spi.burstBytes.toNat) := by decide
theorem witness_ControllerResetRestoresTheDefaults :
    (1 ≤ State.reset.params.fifoDepth ∧ State.reset.params.resetCsMode = .drive) ∧
    (State.construct { Params.default with resetCsMode := .literal } .echo).params.resetCsMode = .literal := by decide
theorem witness_GlobalControlBit31ResetsTheController :
    1 ≤ State.reset.params.fifoDepth ∧ wfSize 4 = true ∧ (0x7FFFFFFF : Word).getLsbD 31 = false ∧ (0x80000000 : Word).getLsbD 31 = true := by decide
theorem witness_StepKeepsTheInvariant :
    (State.reset.pushInput (bare 0x30000000)).Inv ∧ ∃ t, step (State.reset.pushInput (bare 0x30000000)) = .next t := by
  refine ⟨?_, ⟨_, rfl⟩⟩
  unfold State.Inv Ia.Inv Spi.Inv
  decide
theorem witness_StepKeepsAtMostOneLineLow :
    lineTwoLow.AtMostOneLow ∧
    ∃ t, step { State.reset.pushInput (bare 0x30000000) with spi := lineTwoLow } = .next t := by
  refine ⟨?_, ⟨_, rfl⟩⟩
  unfold Spi.AtMostOneLow
  decide
theorem witness_StepKeepsTheLinesFollowingTheRegisters :
    State.reset.params.resetCsMode = .drive ∧ lineTwoLow.LinesFollow ∧
    ∃ t, step { State.reset.pushInput (bare 0xB0000000) with spi := lineTwoLow } = .next t := ⟨rfl, ⟨2, rfl, rfl⟩, ⟨_, rfl⟩⟩

end Sys2Proof.Tests
end

/-! PROOFS. What each shared operation keeps, what a completed request can have done, and the statements of
00_scope.md. -/

namespace Sys2Proof.Machine

/-! ## The FIFO primitives (R17) -/

theorem fifoFull_iff (depth : Nat) (q : List Byte) : fifoFull depth q = true ↔ depth ≤ q.length :=
  decide_eq_true_iff

theorem fifoEmpty_iff (q : List Byte) : fifoEmpty q = true ↔ q.length = 0 :=
  List.isEmpty_iff_length_eq_zero

theorem fifoPush_of_lt (depth : Nat) (q : List Byte) (b : Byte) (h : q.length < depth) :
    fifoPush depth q b = q ++ [b] :=
  if_neg (by rw [fifoFull_iff]; omega)

theorem fifoPush_of_full (depth : Nat) (q : List Byte) (b : Byte) (h : depth ≤ q.length) :
    fifoPush depth q b = q :=
  if_pos ((fifoFull_iff depth q).mpr h)

/-! ## The lowest set bit (R14) -/

theorem exists_bit_of_ne_zero (v : Word) (h : v ≠ 0) : ∃ k, v.getLsbD k = true := by
  by_contra hnone
  push Not at hnone
  exact h (BitVec.eq_of_getLsbD_eq fun k _ => by simp [hnone k])

/-- A non-zero word has a lowest set bit, and `ctz32` is its index. -/
theorem ctz32_spec_of_ne_zero (v : Word) (h : v ≠ 0) :
    ctz32 v < 32 ∧ v.getLsbD (ctz32 v) = true ∧ ∀ k, k < ctz32 v → v.getLsbD k = false := by
  have hex := exists_bit_of_ne_zero v h
  have hset : v.getLsbD (Nat.find hex) = true := Nat.find_spec hex
  have hlow : ∀ k, k < Nat.find hex → v.getLsbD k = false :=
    fun k hk => Bool.eq_false_of_not_eq_true (Nat.find_min hex hk)
  have hlt : Nat.find hex < 32 := BitVec.lt_of_getLsbD hset
  rw [ctz32_of_lowest v (Nat.find hex) hlt hset hlow]
  exact ⟨hlt, hset, hlow⟩

/-! ## The gates of an SPI access (R16, R76, R98) -/

theorem spiAccess_refused_of_size (size : Byte) (s t : State) (h : size = 0 ∨ 4 < size.toNat) :
    spiAccess size s t = .refused (.sizeOutOfRange size) := by
  have hout : sizeInRange size = false := by
    rcases h with rfl | h
    · rfl
    · exact decide_eq_false (by omega)
  simp [spiAccess, hout]

theorem undefAccess_of_not_mem (map : List Word) (off : Word) (o : Host.Outcome State Fault Refusal)
    (h : off ∉ map) : undefAccess map off o = o := by
  simp [undefAccess, h]

/-- Every SPI register access goes through the gate for its size, whatever its effect; an undefined-offset one does
so at an undefined offset. -/
theorem exec_eq_spiAccess (i : Instr) (s : State) (n : Byte) (hn : accessSize i = some n)
    (hr : ∀ off m, i = .spiRUndef off m → off ∉ spiOffsets)
    (hw : ∀ off v m, i = .spiWUndef off v m → off ∉ spiOffsets) :
    ∃ t, exec i s = spiAccess n s t := by
  cases i with
  | iaRVector | iaRBaseAddr | iaRNmiCtl | iaRPending0 | iaRPending1 | iaREnable0 | iaREnable1 | iaRMask0
  | iaRMask1 | iaRUndef | iaWVector | iaWBaseAddr | iaWNmiCtl | iaWPending0 | iaWPending1 | iaWEnable0
  | iaWEnable1 | iaWMask0 | iaWMask1 | iaWUndef | iaLine | iaReset | spiReset => cases hn
  | spiRUndef off m =>
    cases hn
    exact ⟨_, undefAccess_of_not_mem spiMap off _ (hr off n rfl)⟩
  | spiWUndef off v m =>
    cases hn
    exact ⟨_, undefAccess_of_not_mem spiMap off _ (hw off v n rfl)⟩
  | _ =>
    cases hn
    exact ⟨_, rfl⟩

/-! ## What a completed request can have done -/

/-- The effects of the requests that complete, by the block they are for: every state a completed request of block
`b` can leave from `s` (R115 to R134, R160 to R186, R243, R244). -/
inductive Effect (s : State) : Block → State → Prop where
  | answer (b : Block) (v : Word) : Effect s b (s.answer v)
  | reportRead (b : Block) (off : Word) : Effect s b ((s.report b .read off).answer 0)
  | ignoredWrite : Effect s .ia s.recomputeIfIgnored
  | reportIgnoredWrite (off : Word) : Effect s .ia (s.report .ia .write off).recomputeIfIgnored
  | storeBaseAddr (v : Word) : Effect s .ia (s.storeIa { s.ia with baseAddr := baseAddrField v })
  | storeNmiCtl (v : Word) : Effect s .ia (s.storeIa { s.ia with nmiCtl := v })
  | storePending (bank : Bank) (w : Word) : Effect s .ia (s.storeIa (s.ia.setPending bank w))
  | storeEnable (bank : Bank) (w : Word) : Effect s .ia (s.storeIa (s.ia.setEnable bank w))
  | storeMask (bank : Bank) (w : Word) : Effect s .ia (s.storeIa (s.ia.setMask bank w))
  | iaReset : Effect s .ia s.iaReset
  | noEffect : Effect s .spi s
  | reportWrite (off : Word) : Effect s .spi (s.report .spi .write off)
  | tfrCtlRead : Effect s .spi s.tfrCtlRead
  | rxDataRead (size : Byte) : Effect s .spi (s.rxDataRead size)
  | tfrCtlWrite (v : Word) : Effect s .spi (s.tfrCtlWrite v)
  | fifoCtlWrite (v : Word) : Effect s .spi (s.fifoCtlWrite v)
  | storeBurstBytes (n : Byte) : Effect s .spi (s.withSpi { s.spi with burstBytes := n })
  | storeSendBytes (n : Byte) : Effect s .spi (s.withSpi { s.spi with sendBytes := n })
  | queueTx (n : Byte) :
      Effect s .spi (s.withSpi { s.spi with txFifo := fifoPush s.params.fifoDepth s.spi.txFifo n })
  | spiReset : Effect s .spi s.spiReset

/-- An SPI access that completes had the effect it was given. -/
theorem Effect.of_spiAccess {size : Byte} {s t t' : State} (h : spiAccess size s t = .next t')
    (he : Effect s .spi t) : Effect s .spi t' := by
  obtain ⟨-, -, rfl⟩ := (spiAccess_next _ _ _ _).mp h
  exact he

/-- A request that completes had one of the effects of its block. -/
theorem exec_effect (i : Instr) (s t : State) (h : exec i s = .next t) : Effect s i.block t := by
  cases i with
  | iaRVector | iaRBaseAddr | iaRNmiCtl | iaRPending0 | iaRPending1 | iaREnable0 | iaREnable1 | iaRMask0
  | iaRMask1 =>
    cases h
    exact .answer _ _
  | iaRUndef off =>
    obtain ⟨-, ht⟩ := (undefAccess_next _ _ _ _).mp h
    cases ht
    exact .reportRead _ _
  | iaWVector v =>
    cases h
    exact .ignoredWrite
  | iaWBaseAddr v =>
    cases h
    exact .storeBaseAddr v
  | iaWNmiCtl v =>
    cases h
    exact .storeNmiCtl v
  | iaWPending0 | iaWPending1 =>
    cases h
    exact .storePending _ _
  | iaWEnable0 | iaWEnable1 =>
    cases h
    exact .storeEnable _ _
  | iaWMask0 | iaWMask1 =>
    cases h
    exact .storeMask _ _
  | iaWUndef off v =>
    obtain ⟨-, ht⟩ := (undefAccess_next _ _ _ _).mp h
    cases ht
    exact .reportIgnoredWrite off
  | iaLine line level =>
    obtain ⟨-, rfl⟩ := (lineAccess_next _ _ _).mp h
    exact .storePending _ _
  | iaReset =>
    cases h
    exact .iaReset
  | spiRGlbCtl | spiRIntCtl | spiRFifoCtl | spiRFifoSta | spiRClkCtl | spiRBurstCnt | spiRSendCnt
  | spiRBurstCtl | spiRTxdata => exact .of_spiAccess h (.answer _ _)
  | spiRTfrCtl size => exact .of_spiAccess h .tfrCtlRead
  | spiRRxdata size => exact .of_spiAccess h (.rxDataRead size)
  | spiRUndef off size =>
    obtain ⟨-, ht⟩ := (undefAccess_next _ _ _ _).mp h
    exact .of_spiAccess ht (.reportRead _ _)
  | spiWGlbCtl v size =>
    refine .of_spiAccess h ?_
    split
    · exact .spiReset
    · exact .noEffect
  | spiWTfrCtl v size => exact .of_spiAccess h (.tfrCtlWrite v)
  | spiWFifoCtl v size => exact .of_spiAccess h (.fifoCtlWrite v)
  | spiWIntCtl | spiWFifoSta | spiWClkCtl | spiWRxdata => exact .of_spiAccess h .noEffect
  | spiWBurstCnt v size => exact .of_spiAccess h (.storeBurstBytes _)
  | spiWSendCnt | spiWBurstCtl => exact .of_spiAccess h (.storeSendBytes _)
  | spiWTxdata v size => exact .of_spiAccess h (.queueTx _)
  | spiWUndef off v size =>
    obtain ⟨-, ht⟩ := (undefAccess_next _ _ _ _).mp h
    exact .of_spiAccess ht (.reportWrite off)
  | spiReset =>
    obtain ⟨-, rfl⟩ := (spiBuilt_next _ _ _).mp h
    exact .spiReset

/-! ## What the operations of a block keep -/

/-- What any operation of block `b` keeps from `s` to `t`: the parameters, the order of requests, the events output
so far, and everything of the other block, to which the device belongs when it is the SPI (R3, R11, R58). -/
structure Keeps (b : Block) (s t : State) : Prop where
  params : t.params = s.params
  inputs : t.inputs = s.inputs
  events : s.events <+: t.events
  spi_device : b = .ia → t.spi = s.spi ∧ t.device = s.device
  ia : b = .spi → t.ia = s.ia

namespace Keeps

variable {b : Block} {s t u : State}

theorem refl (b : Block) (s : State) : Keeps b s s :=
  ⟨rfl, rfl, List.prefix_rfl, fun _ => ⟨rfl, rfl⟩, fun _ => rfl⟩

theorem trans (h : Keeps b s t) (k : Keeps b t u) : Keeps b s u where
  params := k.params.trans h.params
  inputs := k.inputs.trans h.inputs
  events := h.events.trans k.events
  spi_device hb := ⟨(k.spi_device hb).1.trans (h.spi_device hb).1, (k.spi_device hb).2.trans (h.spi_device hb).2⟩
  ia hb := (k.ia hb).trans (h.ia hb)

theorem ite {c : Prop} [Decidable c] (h : Keeps b s t) (k : Keeps b s u) : Keeps b s (if c then t else u) := by
  split
  · exact h
  · exact k

/-! Output -/

theorem emit (b : Block) (s : State) (e : Event) : Keeps b s (s.emit e) :=
  ⟨rfl, rfl, List.prefix_append _ _, fun _ => ⟨rfl, rfl⟩, fun _ => rfl⟩

theorem answer (b : Block) (s : State) (v : Word) : Keeps b s (s.answer v) :=
  ⟨rfl, rfl, List.prefix_rfl, fun _ => ⟨rfl, rfl⟩, fun _ => rfl⟩

theorem drawn (b : Block) (s : State) : Keeps b s s.drawn :=
  ⟨rfl, rfl, List.prefix_rfl, fun _ => ⟨rfl, rfl⟩, fun _ => rfl⟩

theorem report (b : Block) (s : State) (unit : Block) (dir : Dir) (off : Word) :
    Keeps b s (s.report unit dir off) :=
  emit b s _

/-! The InterruptAggregator -/

theorem withIa (s : State) (a : Ia) : Keeps .ia s (s.withIa a) :=
  ⟨rfl, rfl, List.prefix_rfl, fun _ => ⟨rfl, rfl⟩, nofun⟩

theorem recompute (s : State) : Keeps .ia s s.recompute :=
  (withIa s _).trans (emit .ia _ _)

theorem recomputeIfIgnored (s : State) : Keeps .ia s s.recomputeIfIgnored :=
  (recompute s).ite (refl .ia s)

theorem storeIa (s : State) (a : Ia) : Keeps .ia s (s.storeIa a) :=
  (withIa s a).trans (recompute _)

theorem iaReset (s : State) : Keeps .ia s s.iaReset :=
  (withIa s _).trans (emit .ia _ _)

/-! The SpiController -/

theorem withSpi (s : State) (q : Spi) : Keeps .spi s (s.withSpi q) :=
  ⟨rfl, rfl, List.prefix_rfl, nofun, fun _ => rfl⟩

theorem withDevice (s : State) (d : Downstream) : Keeps .spi s (s.withDevice d) :=
  ⟨rfl, rfl, List.prefix_rfl, nofun, fun _ => rfl⟩

theorem driveCs (s : State) (n : BitVec 2) (level : Bool) : Keeps .spi s (s.driveCs n level) :=
  (withSpi s _).trans (emit .spi _ _)

theorem raiseCs (s : State) : Keeps .spi s s.raiseCs :=
  (((driveCs s 0 true).trans (driveCs _ 1 true)).trans (driveCs _ 2 true)).trans (driveCs _ 3 true)

theorem driveSelected (s : State) (index : CsIndex) (level : Bool) :
    Keeps .spi s (s.driveSelected index level) := by
  cases index with
  | none => exact refl .spi s
  | some n => exact driveCs s n level

theorem storeCs (s : State) (index : CsIndex) (level : Bool) : Keeps .spi s (s.storeCs index level) :=
  withSpi s _

theorem updateCs (s : State) (index : CsIndex) (level : Bool) : Keeps .spi s (s.updateCs index level) :=
  (refl .spi s).ite (((raiseCs s).trans (driveSelected _ index level)).trans (storeCs _ index level))

theorem exchange (s : State) (i : Nat) : Keeps .spi s (s.exchange i) :=
  ((withSpi s _).trans (withDevice _ _)).trans (emit .spi _ _)

theorem exchanges (n i : Nat) (s : State) : Keeps .spi s (State.exchanges n i s) := by
  induction n generalizing i s with
  | zero => exact refl .spi s
  | succ n ih => exact (exchange s i).trans (ih (i + 1) (s.exchange i))

theorem runBurst (s : State) : Keeps .spi s s.runBurst :=
  ((((updateCs s _ _).ite (refl .spi s)).trans (exchanges _ _ _)).trans
    ((updateCs _ _ _).ite (refl .spi _))).trans (withSpi _ _)

theorem tfrCtlWrite (s : State) (v : Word) : Keeps .spi s (s.tfrCtlWrite v) :=
  ((updateCs s _ _).trans (withSpi _ _)).trans ((runBurst _).ite (refl .spi _))

theorem resetCs (s : State) : Keeps .spi s s.resetCs := by
  refine (storeCs s (some 0) true).trans ?_
  unfold State.resetCs
  dsimp only
  split
  · exact (raiseCs _).trans (driveCs _ 0 true)
  · exact updateCs _ _ _

theorem spiReset (s : State) : Keeps .spi s s.spiReset :=
  (resetCs s).trans (withSpi _ _)

theorem tfrCtlRead (s : State) : Keeps .spi s s.tfrCtlRead := by
  unfold State.tfrCtlRead
  split
  · exact answer .spi s _
  · exact (drawn .spi s).trans (answer .spi _ _)

theorem rxDataRead (s : State) (size : Byte) : Keeps .spi s (s.rxDataRead size) :=
  (withSpi s _).trans (answer .spi _ _)

theorem fifoCtlWrite (s : State) (v : Word) : Keeps .spi s (s.fifoCtlWrite v) :=
  ((withSpi s _).ite (refl .spi s)).trans ((withSpi _ _).ite (refl .spi _))

/-! A whole request -/

theorem of_effect (h : Effect s b t) : Keeps b s t := by
  cases h with
  | answer => exact answer b s _
  | reportRead => exact (report b s _ _ _).trans (answer b _ 0)
  | ignoredWrite => exact recomputeIfIgnored s
  | reportIgnoredWrite off => exact (report .ia s _ _ off).trans (recomputeIfIgnored _)
  | storeBaseAddr | storeNmiCtl | storePending | storeEnable | storeMask => exact storeIa s _
  | iaReset => exact iaReset s
  | noEffect => exact refl .spi s
  | reportWrite off => exact report .spi s _ _ off
  | tfrCtlRead => exact tfrCtlRead s
  | rxDataRead size => exact rxDataRead s size
  | tfrCtlWrite v => exact tfrCtlWrite s v
  | fifoCtlWrite v => exact fifoCtlWrite s v
  | storeBurstBytes | storeSendBytes | queueTx => exact withSpi s _
  | spiReset => exact spiReset s

end Keeps

/-- A request that completes keeps what every operation of its block keeps. -/
theorem exec_keeps (i : Instr) (s t : State) (h : exec i s = .next t) : Keeps i.block s t :=
  .of_effect (exec_effect i s t h)

/-! ## The statements of 00_scope.md -/

/-- Settles O10: every operation of a block keeps the other block. -/
theorem blocksAreIndependent : Obligations.BlocksAreIndependent := by
  intro i s t h
  have hk := exec_keeps i s t h
  exact ⟨hk.spi_device, hk.ia⟩

/-- Settles O11: no operation writes the parameters or the order. -/
theorem requestsKeepParametersAndOrder : Obligations.RequestsKeepParametersAndOrder := by
  intro i s t h
  have hk := exec_keeps i s t h
  exact ⟨hk.params, hk.inputs⟩

/-- Settles O13: `emit` is the only operation that touches the event list. -/
theorem requestsOnlyAppendEvents : Obligations.RequestsOnlyAppendEvents := by
  intro i s t h
  exact (exec_keeps i s t h).events

/-- Settles O18, by the minimality of the lowest set bit. -/
theorem ctz32IsTheLowestSetBit : Obligations.Ctz32IsTheLowestSetBit := by
  intro v
  refine ⟨?_, ctz32_spec_of_ne_zero v⟩
  rintro rfl
  exact ctz32_of_none 0 fun j _ => BitVec.getLsbD_zero

/-- Settles O7: the fetch finds the decoded request and takes its packet from the order. -/
theorem stepRunsTheDecodedRequest : Obligations.StepRunsTheDecodedRequest := by
  intro s p rest i hin hd
  unfold step
  rw [fetch_request s p rest i hin hd]
  rfl

/-- Settles O16: the access reaches the gate for its size, which refuses it. -/
theorem sizesOutsideOneToFourAreRefused : Obligations.SizesOutsideOneToFourAreRefused := by
  intro i s n hn hsize hr hw
  obtain ⟨t, ht⟩ := exec_eq_spiAccess i s n hn hr hw
  exact ht.trans (spiAccess_refused_of_size n s t hsize)

/-- Settles O32, primitive by primitive. -/
theorem fifoPrimitivesKeepOrderAndDropOverflow : Obligations.FifoPrimitivesKeepOrderAndDropOverflow := by
  intro depth q b
  exact ⟨fifoPush_of_lt depth q b, fifoPush_of_full depth q b, rfl, rfl, rfl, fifoFull_iff depth q,
    fifoEmpty_iff q⟩

end Sys2Proof.Machine

/-! PROOFS. The invariant of both blocks and the statements of 10_state.md. -/

namespace Sys2Proof.Machine

/-! ## The fields of a value (R47 to R49, R94) -/

theorem baseAddrField_mod_four (v : Word) : (baseAddrField v).toNat % 4 = 0 := by
  have hlow : (v.toNat &&& 0xFFFFFFFC) % 2 ^ 2 = v.toNat % 2 ^ 2 &&& 0xFFFFFFFC % 2 ^ 2 := Nat.and_mod_two_pow
  simpa [baseAddrField] using hlow

/-- Bit 32 of a 32-bit value: the TX clear never happens (R48, R101). -/
theorem txClearField_eq_false (v : Word) : txClearField v = false :=
  BitVec.getLsbD_of_ge v 32 (le_refl 32)

theorem low7_toNat (n : Nat) : (low7 n).toNat = n % 128 := by
  have hmask : n % 2 ^ 32 &&& 127 = n % 2 ^ 32 % 128 := Nat.and_two_pow_sub_one_eq_mod _ 7
  calc (low7 n).toNat
      = n % 2 ^ 32 % 128 := by rw [← hmask, low7, BitVec.toNat_and, BitVec.toNat_ofNat]; rfl
    _ = n % 128 := by omega

/-- The two counts of FIFO_STA do not overlap, so their words add. -/
theorem fifoStaWord_toNat (rx tx : Nat) : (fifoStaWord rx tx).toNat = rx % 128 + 65536 * (tx % 128) := by
  have hrx : (low7 rx).toNat < 2 ^ 16 := by
    rw [low7_toNat]
    omega
  have hshift : (low7 tx <<< 16).toNat = (low7 tx).toNat <<< 16 := by
    rw [BitVec.toNat_shiftLeft, Nat.shiftLeft_eq, low7_toNat]
    omega
  calc (fifoStaWord rx tx).toNat
      = (low7 tx).toNat <<< 16 ||| (low7 rx).toNat := by
        rw [fifoStaWord, BitVec.toNat_or, hshift, Nat.or_comm]
    _ = (low7 tx).toNat <<< 16 + (low7 rx).toNat := (Nat.shiftLeft_add_eq_or_of_lt hrx _).symm
    _ = rx % 128 + 65536 * (tx % 128) := by
        rw [Nat.shiftLeft_eq, low7_toNat, low7_toNat]
        omega

theorem bitWord_getLsbD (b : Bool) (j : Nat) : (bitWord b).getLsbD j = (decide (j = 0) && b) := by
  cases j with
  | zero => simp [bitWord]
  | succ j => simp [bitWord]

theorem bitWord_shiftLeft_getLsbD (b : Bool) (k j : Nat) (hj : j < 32) :
    (bitWord b <<< k).getLsbD j = (decide (j = k) && b) := by
  have hkj : (!decide (j < k) && decide (j - k = 0)) = decide (j = k) := by grind
  rw [BitVec.getLsbD_shiftLeft, bitWord_getLsbD, ← Bool.and_assoc, Bool.and_assoc (decide (j < 32)), hkj,
    decide_eq_true hj, Bool.true_and]

theorem selWord_shiftLeft_getLsbD (sel : BitVec 2) (j : Nat) (hj : j < 32) :
    (sel.setWidth 32 <<< 4 : Word).getLsbD j = (decide (4 ≤ j) && sel.getLsbD (j - 4)) := by
  have hj4 : j - 4 < 32 := by omega
  have hge : (!decide (j < 4)) = decide (4 ≤ j) := by grind
  rw [BitVec.getLsbD_shiftLeft, BitVec.getLsbD_setWidth, hge, decide_eq_true hj, decide_eq_true hj4,
    Bool.true_and, Bool.true_and]

/-- Every bit of the TFR_CTL word: the index from bit 4 on, the level and the start flag in one bit each. -/
theorem tfrCtlWord_getLsbD (sel : BitVec 2) (level start : Bool) (j : Nat) (hj : j < 32) :
    (tfrCtlWord sel level start).getLsbD j =
      ((decide (4 ≤ j) && sel.getLsbD (j - 4)) || (decide (j = 7) && level) || (decide (j = 31) && start)) := by
  rw [tfrCtlWord, BitVec.getLsbD_or, BitVec.getLsbD_or, selWord_shiftLeft_getLsbD sel j hj,
    bitWord_shiftLeft_getLsbD level 7 j hj, bitWord_shiftLeft_getLsbD start 31 j hj]

theorem tfrCtlWord_level (sel : BitVec 2) (level start : Bool) :
    (tfrCtlWord sel level start).getLsbD 7 = level := by
  rw [tfrCtlWord_getLsbD sel level start 7 (by decide)]
  simp

theorem tfrCtlWord_start (sel : BitVec 2) (level start : Bool) :
    (tfrCtlWord sel level start).getLsbD 31 = start := by
  rw [tfrCtlWord_getLsbD sel level start 31 (by decide)]
  simp

theorem tfrCtlWord_sel (sel : BitVec 2) (level start : Bool) :
    (tfrCtlWord sel level start).extractLsb' 4 2 = sel := by
  refine BitVec.eq_of_getLsbD_eq fun j hj => ?_
  have h7 : 4 + j ≠ 7 := by omega
  have h31 : 4 + j ≠ 31 := by omega
  rw [BitVec.getLsbD_extractLsb', tfrCtlWord_getLsbD sel level start (4 + j) (by omega)]
  simp [hj, h7, h31]

theorem tfrCtlWord_zero (sel : BitVec 2) (level start : Bool) (j : Nat) (hj : j < 32) (h4 : j ≠ 4) (h5 : j ≠ 5)
    (h7 : j ≠ 7) (h31 : j ≠ 31) : (tfrCtlWord sel level start).getLsbD j = false := by
  have hsel : 4 ≤ j → sel.getLsbD (j - 4) = false := fun _ => BitVec.getLsbD_of_ge _ _ (by omega)
  rw [tfrCtlWord_getLsbD sel level start j hj]
  simpa [h7, h31] using hsel

/-! ## Accesses in the domain -/

theorem spiAccess_of_domain (n : Byte) (s t : State) (hd : 1 ≤ s.params.fifoDepth) (hn : wfSize n = true) :
    spiAccess n s t = .next t :=
  (spiAccess_next n s t t).mpr ⟨hn, by omega, rfl⟩

theorem tfrCtlRead_of_line (s : State) (x : BitVec 2) (h : s.spi.csIndex = some x) :
    s.tfrCtlRead = s.answer (tfrCtlWord x s.spi.csLevel s.spi.startBurst) := by
  simp [State.tfrCtlRead, h]

theorem tfrCtlRead_of_none (s : State) (h : s.spi.csIndex = none) :
    s.tfrCtlRead =
      s.drawn.answer (tfrCtlWord (Config.csIndexBits s.draws) s.spi.csLevel s.spi.startBurst) := by
  simp [State.tfrCtlRead, h]

theorem fifoCtlWrite_eq (s : State) (v : Word) :
    s.fifoCtlWrite v =
      s.withSpi { s.spi with rxFifo := if v.getLsbD 15 then [] else s.spi.rxFifo } := by
  have hrx : rxClearField v = v.getLsbD 15 := rfl
  unfold State.fifoCtlWrite
  rw [txClearField_eq_false, hrx]
  cases v.getLsbD 15 <;> rfl

/-! ## The IA's invariant (R33, R34, R36, R112, R113) -/

/-- The scan ends with four times a line number, or with 0. -/
theorem scanBanks_v (a : Ia) : (scanBanks a).v % 4 = 0 ∧ (scanBanks a).v ≤ 252 := by
  obtain ⟨h0, he⟩ | ⟨-, h1, he⟩ | ⟨-, -, he⟩ := scanBanks_cases a <;> rw [he] <;> dsimp only <;> omega

theorem scanBanks_baseAddr (a : Ia) : (scanBanks a).ia.baseAddr = a.baseAddr := by
  obtain ⟨-, he⟩ | ⟨-, -, he⟩ | ⟨-, -, he⟩ := scanBanks_cases a <;> simp [he]

/-- A recompute sets the vector and the output right, whatever they were. -/
theorem Ia.recomputed_inv (a : Ia) (h : a.baseAddr.toNat % 4 = 0) : a.recomputed.Inv := by
  obtain ⟨hmod, hle⟩ := scanBanks_v a
  have hbase : a.recomputed.baseAddr = a.baseAddr := scanBanks_baseAddr a
  have hvec : a.recomputed.vector.toNat = (scanBanks a).v := by
    simp only [Ia.recomputed, BitVec.toNat_ofNat]
    omega
  refine ⟨?_, ?_, ?_, rfl⟩
  · rwa [hbase]
  · rwa [hvec]
  · rwa [hvec]

theorem Ia.initial_inv : Ia.initial.Inv := by
  unfold Ia.Inv
  decide

theorem recomputeIfIgnored_ia_inv (s : State) (h : s.ia.Inv) : s.recomputeIfIgnored.ia.Inv := by
  unfold State.recomputeIfIgnored
  split
  · exact s.ia.recomputed_inv h.left
  · exact h

/-- No request breaks the IA's invariant: those of the SPI leave the IA alone, and every store recomputes. -/
theorem Effect.ia_inv {s t : State} {b : Block} (h : Effect s b t) (hs : s.ia.Inv) : t.ia.Inv := by
  cases b with
  | spi => rwa [(Keeps.of_effect h).ia rfl]
  | ia =>
    have hbase : s.ia.baseAddr.toNat % 4 = 0 := hs.left
    cases h with
    | answer | reportRead => exact hs
    | ignoredWrite => exact recomputeIfIgnored_ia_inv s hs
    | reportIgnoredWrite off => exact recomputeIfIgnored_ia_inv _ hs
    | storeBaseAddr v => exact Ia.recomputed_inv _ (baseAddrField_mod_four v)
    | storeNmiCtl v => exact Ia.recomputed_inv _ hbase
    | storePending | storeEnable | storeMask => exact Ia.recomputed_inv _ (by simpa using hbase)
    | iaReset => exact Ia.initial_inv

/-! ## The SPI's invariant (R40, R41, R43) -/

/-- The part of the SPI's invariant that holds inside a step too, while a burst runs with start_burst set: the FIFOs
within their capacity and a chip-select line selected. -/
def Spi.Within (depth : Nat) (q : Spi) : Prop :=
  q.txFifo.length ≤ depth ∧ q.rxFifo.length ≤ depth ∧ q.csIndex ≠ none

theorem Spi.inv_iff (depth : Nat) (q : Spi) : q.Inv depth ↔ q.Within depth ∧ q.startBurst = false := by
  simp only [Spi.Inv, Spi.Within, and_assoc]

/-- `Spi.Within` for the capacity the state was built with. -/
def State.Within (s : State) : Prop := s.spi.Within s.params.fifoDepth

theorem driveSelected_spi (s : State) (index : CsIndex) (level : Bool) :
    ∃ lines, (s.driveSelected index level).spi = { s.spi with csLine := lines } := by
  cases index with
  | none => exact ⟨_, rfl⟩
  | some n => exact ⟨_, rfl⟩

/-- Of the SPI, a protocol call writes the index and the level it is given, and the lines. -/
theorem updateCs_spi (s : State) (index : CsIndex) (level : Bool) :
    ∃ lines, (s.updateCs index level).spi =
      { s.spi with csIndex := index, csLevel := level, csLine := lines } := by
  by_cases h : index = s.spi.csIndex ∧ level = s.spi.csLevel
  · rw [updateCs_same s index level h]
    obtain ⟨rfl, rfl⟩ := h
    exact ⟨_, rfl⟩
  · obtain ⟨lines, hl⟩ := driveSelected_spi s.raiseCs index level
    refine ⟨lines, ?_⟩
    rw [updateCs_change s index level h, State.storeCs_spi, hl, raiseCs_eq]

theorem updateCs_within (s : State) (index : CsIndex) (level : Bool) (hi : index ≠ none) (h : s.Within) :
    (s.updateCs index level).Within := by
  obtain ⟨lines, hl⟩ := updateCs_spi s index level
  obtain ⟨htx, hrx, -⟩ := h
  unfold State.Within
  rw [hl, (Keeps.updateCs s index level).params]
  exact ⟨htx, hrx, hi⟩

theorem exchange_within (s : State) (i : Nat) (h : s.Within) : (s.exchange i).Within := by
  obtain ⟨htx, hrx, hi⟩ := h
  obtain ⟨hrx', htx'⟩ := exchange_fifos i s hrx
  exact ⟨htx'.trans htx, hrx', hi⟩

theorem exchanges_within (n i : Nat) (s : State) (h : s.Within) : (State.exchanges n i s).Within := by
  induction n generalizing i s with
  | zero => exact h
  | succ n ih => exact ih (i + 1) (s.exchange i) (exchange_within s i h)

/-- The bracket of a burst: the protocol call for the selected line, if the condition asks for it. -/
theorem bracketCs_within (s : State) (auto level : Bool) (h : s.Within) :
    (if auto then s.updateCs s.spi.csIndex level else s).Within := by
  have ⟨_, _, hindex⟩ := h
  split
  · exact updateCs_within s _ level hindex h
  · exact h

theorem runBurst_within (s : State) (h : s.Within) : s.runBurst.Within :=
  bracketCs_within _ (autoCs s.spi) true
    (exchanges_within s.spi.burstBytes.toNat 0 _ (bracketCs_within s (autoCs s.spi) false h))

/-- A TFR_CTL write selects one of the four lines and leaves start_burst clear: the burst clears it, and without a
burst the value's bit is 0. -/
theorem tfrCtlWrite_spi_inv (s : State) (v : Word) (h : s.Within) :
    (s.tfrCtlWrite v).spi.Inv (s.tfrCtlWrite v).params.fifoDepth := by
  have hcs : (s.updateCs (some (csSelField v)) (csLvlField v)).Within :=
    updateCs_within s _ _ (Option.some_ne_none _) h
  rw [Spi.inv_iff]
  unfold State.tfrCtlWrite
  dsimp only
  split
  · exact ⟨runBurst_within _ hcs, rfl⟩
  · exact ⟨hcs, by simpa using ‹¬startField v = true›⟩

/-- Of the SPI, the reset's chip-select part selects line 0 at level 1, in both modes, and writes the lines. -/
theorem resetCs_spi (s : State) :
    ∃ lines, s.resetCs.spi = { s.spi with csIndex := some 0, csLevel := true, csLine := lines } := by
  unfold State.resetCs
  dsimp only
  split
  · exact ⟨_, by rw [State.driveCs_spi, raiseCs_eq, State.storeCs_spi]⟩
  · obtain ⟨lines, hl⟩ := updateCs_spi (s.storeCs (some 0) true) (some 0) true
    exact ⟨lines, by rw [hl, State.storeCs_spi]⟩

/-- The SPI after its reset is the one at construction, but for the lines (R242). -/
theorem spiReset_spi (s : State) : ∃ lines, s.spiReset.spi = { Spi.initial with csLine := lines } := by
  obtain ⟨lines, hl⟩ := resetCs_spi s
  refine ⟨lines, ?_⟩
  unfold State.spiReset
  dsimp only
  rw [State.withSpi_spi, hl]
  rfl

theorem Spi.initial_inv (depth : Nat) (lines : Vector Bool 4) :
    Spi.Inv depth { Spi.initial with csLine := lines } :=
  ⟨Nat.zero_le _, Nat.zero_le _, Option.some_ne_none _, rfl⟩

/-- No request breaks the SPI's invariant: those of the IA leave the SPI alone. -/
theorem Effect.spi_inv {s t : State} {b : Block} (h : Effect s b t) (hs : s.spi.Inv s.params.fifoDepth) :
    t.spi.Inv t.params.fifoDepth := by
  cases b with
  | ia =>
    obtain ⟨hspi, -⟩ := (Keeps.of_effect h).spi_device rfl
    rwa [hspi, (Keeps.of_effect h).params]
  | spi =>
    obtain ⟨htx, hrx, hindex, hstart⟩ := hs
    cases h with
    | answer | reportRead | noEffect | reportWrite | storeBurstBytes | storeSendBytes =>
      exact ⟨htx, hrx, hindex, hstart⟩
    | tfrCtlRead =>
      cases hi : s.spi.csIndex with
      | none => exact absurd hi hindex
      | some x =>
        rw [tfrCtlRead_of_line s x hi]
        exact ⟨htx, hrx, hindex, hstart⟩
    | rxDataRead size =>
      have hdrop : (s.rxDataRead size).spi.rxFifo = s.spi.rxFifo.drop size.toNat := popWord_snd _ _ _ _
      have hlen : (s.rxDataRead size).spi.rxFifo.length ≤ s.params.fifoDepth := by
        rw [hdrop, List.length_drop]
        omega
      exact ⟨htx, hlen, hindex, hstart⟩
    | tfrCtlWrite v => exact tfrCtlWrite_spi_inv s v ⟨htx, hrx, hindex⟩
    | fifoCtlWrite v =>
      rw [fifoCtlWrite_eq]
      refine ⟨htx, ?_, hindex, hstart⟩
      dsimp only [State.withSpi_spi]
      split
      · exact Nat.zero_le _
      · exact hrx
    | queueTx n => exact ⟨fifoPush_length_le _ _ _ htx, hrx, hindex, hstart⟩
    | spiReset =>
      obtain ⟨lines, hl⟩ := spiReset_spi s
      rw [hl]
      exact Spi.initial_inv _ lines

theorem exec_keeps_inv (i : Instr) (s t : State) (hs : s.Inv) (h : exec i s = .next t) : t.Inv := by
  obtain ⟨hia, hspi⟩ := hs
  have he := exec_effect i s t h
  exact ⟨he.ia_inv hia, he.spi_inv hspi⟩

/-! ## The statements of 10_state.md -/

/-- Settles O50: an idle step changes neither block; a request starts from the blocks as they are and keeps the
invariant of each. -/
theorem stepKeepsTheInvariant : Obligations.StepKeepsTheInvariant := by
  intro s t hs h
  obtain ⟨-, rfl⟩ | ⟨_, rest, i, -, -, hexec⟩ := step_cases s t h
  · exact hs
  · exact exec_keeps_inv i (s.begun rest) t hs hexec

/-- Settles O34, by the sum of the two counts' words. -/
theorem fifoStatusPacksTheOccupancies : Obligations.FifoStatusPacksTheOccupancies := by
  intro s n hd hn
  exact ⟨_, spiAccess_of_domain n s _ hd hn, fifoStaWord_toNat _ _⟩

/-- Settles O35, by whether a line is selected: the word is `tfrCtlWord` of that line or of the free value. -/
theorem transferControlReadsTheThreeFields : Obligations.TransferControlReadsTheThreeFields := by
  intro s n hd hn
  have hexec : exec (.spiRTfrCtl n) s = .next s.tfrCtlRead := spiAccess_of_domain n s _ hd hn
  cases hi : s.spi.csIndex with
  | some y =>
    refine ⟨_, s.draws, by rw [hexec, tfrCtlRead_of_line s y hi]; rfl, tfrCtlWord_level _ _ _,
      tfrCtlWord_start _ _ _, tfrCtlWord_zero _ _ _, ?_, nofun⟩
    rintro x ⟨rfl⟩
    exact ⟨tfrCtlWord_sel _ _ _, rfl⟩
  | none =>
    exact ⟨_, s.draws + 1, by rw [hexec, tfrCtlRead_of_none s hi]; rfl, tfrCtlWord_level _ _ _,
      tfrCtlWord_start _ _ _, tfrCtlWord_zero _ _ _, nofun, fun _ => ⟨tfrCtlWord_sel _ _ _, rfl⟩⟩

/-- Settles O8: the fetch finds no request. -/
theorem stepWithoutRequestIsIdle : Obligations.StepWithoutRequestIsIdle := by
  intro s h
  unfold step
  rw [fetch_nil s h]
  rfl

/-- Settles O40: the TX clear bit is out of the word. -/
theorem fifoControlClearsOnlyTheRxFifo : Obligations.FifoControlClearsOnlyTheRxFifo := by
  intro s v n hd hn
  have hexec : exec (.spiWFifoCtl v n) s = .next (s.fifoCtlWrite v) := spiAccess_of_domain n s _ hd hn
  rw [hexec, fifoCtlWrite_eq]
  rfl

/-- Settles O49: `State.construct` gives each field its value of R60. -/
theorem constructionLeavesTheStatedValues : Obligations.ConstructionLeavesTheStatedValues :=
  ⟨fun _ _ => ⟨rfl, rfl, rfl, rfl⟩, Params.default, .unknown 0, rfl⟩

theorem construct_inv (p : Params) (d : Downstream) : (State.construct p d).Inv :=
  ⟨Ia.initial_inv, Spi.initial_inv p.fifoDepth (Vector.replicate 4 true)⟩

/-- Settles O51; `State.reset` is a construction. -/
theorem constructionHasTheInvariant : Obligations.ConstructionHasTheInvariant :=
  ⟨construct_inv, construct_inv Params.default (.unknown 0)⟩

end Sys2Proof.Machine

/-! PROOFS. The decode of undefined offsets and of nested requests, the size of an SPI access, and the statements of
20_memory.md. -/

namespace Sys2Proof.Machine

/-! ## The legs of the decode at a READ or WRITE (R91, R92, R98) -/

/-- The offsets of a block's register map (R71). -/
def definedOffsets : Block → List Word
  | .ia => iaOffsets
  | .spi => spiOffsets

/-- No operand is part of a row's descriptor. -/
theorem exactRows_map_fst (v : Word) (n : Byte) :
    (exactRows v n).map Prod.fst = (exactRows 0 0).map Prod.fst := rfl

/-- The exact rows of kind READ and WRITE stand at the offsets of the register maps (R71, R96, R97). -/
theorem exactRows_offset_mem (v : Word) (n : Byte) (d : Word) (hd : d ∈ (exactRows v n).map Prod.fst)
    (hk : (bare d).kind = 0 ∨ (bare d).kind = 1) : (bare d).offset ∈ definedOffsets (bare d).block := by
  have hrows : ((exactRows 0 0).map Prod.fst).all (fun d => decide ((bare d).kind = 0 ∨ (bare d).kind = 1 →
      (bare d).offset ∈ definedOffsets (bare d).block)) = true := by decide
  rw [exactRows_map_fst] at hd
  exact of_decide_eq_true (List.all_eq_true.mp hrows d hd) hk

/-- With a zero lane beside it a packet has the offset of its bare descriptor. -/
theorem offset_of_offHi_zero (p : Packet) (h : p.offHi = 0) : p.offset = (bare p.desc).offset := by
  simp [Packet.offset, bare, h]

theorem decodeExact_of_undefined (p : Packet) (hk : p.kind = 0 ∨ p.kind = 1)
    (hoff : p.offset ∉ definedOffsets p.block) : decodeExact p = none := by
  unfold decodeExact
  split
  · rw [List.lookup_eq_none_iff]
    intro row hrow
    rw [bne_iff_ne]
    intro hdesc
    have hmem : p.desc ∈ (exactRows p.value p.size).map Prod.fst := hdesc ▸ List.mem_map_of_mem hrow
    refine hoff ?_
    rw [offset_of_offHi_zero p ‹p.offHi = 0›]
    exact exactRows_offset_mem _ _ _ hmem hk
  · rfl

/-- The row IA.LINE has kind 2 (R91, R92). -/
theorem kind_of_line (p : Packet) (h : p.desc &&& 0xFFFFFEC0 = 0x20000000) : p.kind = 2 := by
  have hkind : (p.desc &&& 0xFFFFFEC0).extractLsb' 28 3 = p.kind := by
    rw [BitVec.extractLsb'_and]
    exact BitVec.and_allOnes
  rw [← hkind, h]
  rfl

theorem decodeLine_of_kind (p : Packet) (hk : p.kind ≠ 2) : decodeLine p = none :=
  if_neg fun h => hk (kind_of_line p h.right)

/-- What the mask of the fallback rows leaves of a descriptor: its unit and its kind (R91, R98). -/
theorem desc_and_fallbackMask (p : Packet) :
    p.desc &&& 0xF0000000 = BitVec.cons (decide (p.block = .spi)) p.kind ++ 0#28 := by
  have hmask : ∀ j < 32, (0xF0000000 : Word).getLsbD j = decide (28 ≤ j) := by decide
  have hunit : decide (p.block = .spi) = p.desc.getLsbD 31 := by
    unfold Packet.block
    cases p.desc.getLsbD 31 <;> rfl
  refine BitVec.eq_of_getLsbD_eq fun j hj => ?_
  rw [BitVec.getLsbD_and, hmask j hj, hunit, BitVec.getLsbD_append, BitVec.getLsbD_cons]
  by_cases hlow : j < 28
  · simp [hlow, Nat.not_le.mpr hlow]
  · by_cases htop : j = 31
    · simp [htop]
    · have hjk : j - 28 < 3 := by omega
      have hne : j - 28 ≠ 3 := by omega
      simp [hlow, hjk, hne, Packet.kind, Nat.not_lt.mp hlow, Nat.add_sub_cancel' (Nat.not_lt.mp hlow)]

/-! The fallback row of each unit and kind -/

theorem decodeFallback_iaRead (p : Packet) (hb : p.block = .ia) (hk : p.kind = 0) :
    decodeFallback p = some (.iaRUndef p.offset) := by
  rw [decodeFallback, desc_and_fallbackMask, hb, hk]
  rfl

theorem decodeFallback_iaWrite (p : Packet) (hb : p.block = .ia) (hk : p.kind = 1) :
    decodeFallback p = some (.iaWUndef p.offset p.value) := by
  rw [decodeFallback, desc_and_fallbackMask, hb, hk]
  rfl

theorem decodeFallback_spiRead (p : Packet) (hb : p.block = .spi) (hk : p.kind = 0) :
    decodeFallback p = some (.spiRUndef p.offset p.size) := by
  rw [decodeFallback, desc_and_fallbackMask, hb, hk]
  rfl

theorem decodeFallback_spiWrite (p : Packet) (hb : p.block = .spi) (hk : p.kind = 1) :
    decodeFallback p = some (.spiWUndef p.offset p.value p.size) := by
  rw [decodeFallback, desc_and_fallbackMask, hb, hk]
  rfl

/-! ## The decode (R88, R98) -/

theorem decode_of_nested (p : Packet) (h : p.nested = true) : decode p = .error .nestedRequest :=
  if_pos h

/-- A READ or WRITE at an undefined offset reaches the fallback rows. -/
theorem decode_of_undefined (p : Packet) (i : Instr) (hn : p.nested = false) (hk : p.kind = 0 ∨ p.kind = 1)
    (hoff : p.offset ∉ definedOffsets p.block) (hi : decodeFallback p = some i) : decode p = .ok i := by
  have hline : p.kind ≠ 2 := by rcases hk with hk | hk <;> rw [hk] <;> decide
  simp [decode, hn, decodeExact_of_undefined p hk hoff, decodeLine_of_kind p hline, hi]

/-! ## Refused steps and the gate for the size (R16, R76) -/

/-- A step at a packet that names no request is refused with the decoder's reason. -/
theorem step_refused_of_decode (s : State) (p : Packet) (rest : List Packet) (why : DecodeError)
    (hin : s.inputs = p :: rest) (hd : decode p = .error why) : step s = .refused (.noRequest why) := by
  unfold step
  rw [fetch_rejected s p rest why hin hd]

/-- At a size in 1..4 only the FIFO depth decides whether an SPI access completes. -/
theorem spiAccess_of_wfSize (n : Byte) (s t : State) (hn : wfSize n = true) : spiAccess n s t = spiBuilt s t :=
  if_pos hn

/-! ## The statements of 20_memory.md -/

/-- Settles O4: neither the exact rows nor the line row match, and of the fallback rows the one with the packet's
unit and kind does. -/
theorem undefinedOffsetsDecodeToTheFallbackRows : Obligations.UndefinedOffsetsDecodeToTheFallbackRows := by
  intro p hn
  refine ⟨?_, ?_, ?_, ?_⟩ <;> intro hb hk hoff
  · exact decode_of_undefined p _ hn (.inl hk) (hb ▸ hoff) (decodeFallback_iaRead p hb hk)
  · exact decode_of_undefined p _ hn (.inr hk) (hb ▸ hoff) (decodeFallback_iaWrite p hb hk)
  · exact decode_of_undefined p _ hn (.inl hk) (hb ▸ hoff) (decodeFallback_spiRead p hb hk)
  · exact decode_of_undefined p _ hn (.inr hk) (hb ▸ hoff) (decodeFallback_spiWrite p hb hk)

/-- Settles O6: the decoder refuses a nested request before it looks at any row. -/
theorem requestDuringTransferIsRefused : Obligations.RequestDuringTransferIsRefused := by
  intro s p rest hin hnested
  exact step_refused_of_decode s p rest _ hin (decode_of_nested p hnested)

/-- Settles O15: of these accesses only the gate takes the size, and it lets both sizes pass. -/
theorem sizeChangesOnlyTheRxdataRead : Obligations.SizeChangesOnlyTheRxdataRead := by
  intro s m n v off hm hn
  have hgate : ∀ t, spiAccess m s t = spiAccess n s t := fun t =>
    (spiAccess_of_wfSize m s t hm).trans (spiAccess_of_wfSize n s t hn).symm
  have hundef : ∀ t, undefAccess spiMap off (spiAccess m s t) = undefAccess spiMap off (spiAccess n s t) :=
    fun t => congrArg (undefAccess spiMap off) (hgate t)
  exact ⟨hgate _, hgate _, hgate _, hgate _, hgate _, hgate _, hgate _, hgate _, hgate _, hgate _, hundef _,
    hgate _, hgate _, hgate _, hgate _, hgate _, hgate _, hgate _, hgate _, hgate _, hgate _, hgate _, hundef _⟩

end Sys2Proof.Machine

/-! PROOFS. The decode of the exact rows, of the line row and of reserved descriptors, what an encoded request decodes
to, the reports a request makes, and the statements of 30_encoding.md. -/

namespace Sys2Proof.Machine

/-! ## The lanes of a packet (R71, R91) -/

@[simp] theorem withSize_size (p : Packet) (n : Byte) : (p.withSize n).size = n :=
  BitVec.sub_add_cancel n 1

/-- The mask 0x0FFFFFFF of the offset bits in a descriptor. -/
theorem offsetMask_getLsbD (j : Nat) (hj : j < 32) : (0x0FFFFFFF : Word).getLsbD j = decide (j < 28) := by
  revert j
  decide

/-- An offset has its bits 27:0 from the descriptor and its bits 31:28 from the lane beside it. -/
theorem offset_getLsbD (p : Packet) (j : Nat) (hj : j < 32) :
    p.offset.getLsbD j = if j < 28 then p.desc.getLsbD j else p.offHi.getLsbD (j - 28) := by
  rw [Packet.offset, BitVec.getLsbD_or, BitVec.getLsbD_and, offsetMask_getLsbD j hj, BitVec.getLsbD_shiftLeft,
    BitVec.getLsbD_setWidth]
  by_cases hlow : j < 28
  · simp [hlow]
  · simp [hlow, hj, show j - 28 < 32 by omega]

/-- The lane of an undefined-offset packet holds bits 31:28 of its offset, the descriptor the other bits. -/
theorem atOffset_offset (unitKind off : Word) (h : unitKind &&& 0x0FFFFFFF = 0#32) :
    (atOffset unitKind off).offset = off := by
  have hdesc : (atOffset unitKind off).desc &&& 0x0FFFFFFF = off &&& 0x0FFFFFFF := by
    change (unitKind ||| (off &&& 0x0FFFFFFF)) &&& 0x0FFFFFFF = off &&& 0x0FFFFFFF
    rw [BitVec.and_or_distrib_right, h, BitVec.zero_or, BitVec.and_assoc, BitVec.and_self]
  refine BitVec.eq_of_getLsbD_eq fun j hj => ?_
  rw [offset_getLsbD _ j hj]
  split
  · have hbit := congrArg (BitVec.getLsbD · j) hdesc
    simpa only [BitVec.getLsbD_and, offsetMask_getLsbD j hj, decide_eq_true ‹j < 28›, Bool.and_true] using hbit
  · have hlane : (atOffset unitKind off).offHi = off.extractLsb' 28 4 := rfl
    rw [hlane, BitVec.getLsbD_extractLsb', Nat.add_sub_cancel' (by omega), decide_eq_true (by omega),
      Bool.true_and]

theorem atOffset_kind (unitKind off : Word) : (atOffset unitKind off).kind = unitKind.extractLsb' 28 3 := by
  have hmask : (0x0FFFFFFF : Word).extractLsb' 28 3 = 0 := rfl
  change (unitKind ||| (off &&& 0x0FFFFFFF)).extractLsb' 28 3 = _
  rw [BitVec.extractLsb'_or, BitVec.extractLsb'_and, hmask]
  simp

/-- Unit, kind and offset put together again are the descriptor and the lane they were taken from. -/
theorem atOffset_of_offset (p : Packet) (unitKind : Word) (h : p.desc &&& 0xF0000000 = unitKind) :
    (atOffset unitKind p.offset).desc = p.desc ∧ (atOffset unitKind p.offset).offHi = p.offHi := by
  have hlow : p.offset &&& 0x0FFFFFFF = p.desc &&& 0x0FFFFFFF := by
    refine BitVec.eq_of_getLsbD_eq fun j hj => ?_
    rw [BitVec.getLsbD_and, BitVec.getLsbD_and, offset_getLsbD p j hj, offsetMask_getLsbD j hj]
    by_cases hj28 : j < 28 <;> simp [hj28]
  constructor
  · calc (atOffset unitKind p.offset).desc
        = p.desc &&& 0xF0000000 ||| p.desc &&& 0x0FFFFFFF := by rw [h, ← hlow]; rfl
      _ = p.desc &&& (0xF0000000 ||| 0x0FFFFFFF) := BitVec.and_or_distrib_left.symm
      _ = p.desc := BitVec.and_allOnes
  · refine BitVec.eq_of_getLsbD_eq fun j hj => ?_
    have hlane : (atOffset unitKind p.offset).offHi = p.offset.extractLsb' 28 4 := rfl
    rw [hlane, BitVec.getLsbD_extractLsb', offset_getLsbD p (28 + j) (by omega)]
    simp [hj]

/-! ## The exact rows (R91, R93, R96, R97) -/

/-- An exact row is a READ, a WRITE, or a RESET with bits 27:0 clear. -/
theorem exactRows_kind (v : Word) (n : Byte) (d : Word) (hd : d ∈ (exactRows v n).map Prod.fst) :
    (bare d).kind = 0 ∨ (bare d).kind = 1 ∨ ((bare d).kind = 3 ∧ d &&& 0x0FFFFFFF = 0) := by
  have hrows : ((exactRows 0 0).map Prod.fst).all (fun d => decide
      ((bare d).kind = 0 ∨ (bare d).kind = 1 ∨ ((bare d).kind = 3 ∧ d &&& 0x0FFFFFFF = 0))) = true := by decide
  rw [exactRows_map_fst] at hd
  exact of_decide_eq_true (List.all_eq_true.mp hrows d hd)

/-- Each exact row stands at the descriptor its request encodes to, with a zero lane. -/
theorem exactRows_encode (v : Word) (n : Byte) (row : Word × Instr) (h : row ∈ exactRows v n) :
    (encode row.2).desc = row.1 ∧ (encode row.2).offHi = 0 := by
  have hrows : (exactRows v n).map (fun r => ((encode r.2).desc, (encode r.2).offHi)) =
      (exactRows v n).map fun r => (r.1, 0) := rfl
  exact Prod.mk.inj (List.map_inj_left.mp hrows row h)

theorem mem_exactRows_of_decodeExact (p : Packet) (i : Instr) (h : decodeExact p = some i) :
    p.offHi = 0 ∧ (p.desc, i) ∈ exactRows p.value p.size := by
  obtain ⟨hlane, hrow⟩ := Option.ite_none_right_eq_some.mp h
  obtain ⟨before, after, hsplit, -⟩ := List.lookup_eq_some_iff.mp hrow
  exact ⟨hlane, by simp [hsplit]⟩

/-- A descriptor of another kind, or a RESET with a reserved bit, is no exact row. -/
theorem decodeExact_of_kind (p : Packet) (h0 : p.kind ≠ 0) (h1 : p.kind ≠ 1)
    (h3 : p.kind = 3 → p.desc &&& 0x0FFFFFFF ≠ 0) : decodeExact p = none := by
  rw [Option.eq_none_iff_forall_ne_some]
  intro i hi
  obtain ⟨-, hmem⟩ := mem_exactRows_of_decodeExact p i hi
  obtain hk | hk | ⟨hk, hzero⟩ := exactRows_kind p.value p.size p.desc (List.mem_map_of_mem hmem)
  · exact h0 hk
  · exact h1 hk
  · exact h3 hk hzero

/-! ## The line row (R92) -/

/-- The mask 0xFFFFFEC0 of the line row leaves out the line, bits 5:0, and the level, bit 8. -/
theorem lineMask_getLsbD (j : Nat) (hj : j < 32) :
    (0xFFFFFEC0 : Word).getLsbD j = (decide (6 ≤ j) && decide (j ≠ 8)) := by
  revert j
  decide

theorem lineRow_getLsbD (j : Nat) (hj : j < 32) : (0x20000000 : Word).getLsbD j = decide (j = 29) := by
  revert j
  decide

/-- Every bit of a LINE descriptor: the kind, the level and the line. -/
theorem encode_line_getLsbD (line : BitVec 6) (level : Bool) (j : Nat) (hj : j < 32) :
    (encode (.iaLine line level)).desc.getLsbD j =
      (decide (j = 29) || (decide (j = 8) && level) || line.getLsbD j) := by
  have hdesc : (encode (.iaLine line level)).desc =
      (0x20000000 : Word) ||| bitWord level <<< 8 ||| line.setWidth 32 := rfl
  rw [hdesc, BitVec.getLsbD_or, BitVec.getLsbD_or, lineRow_getLsbD j hj, bitWord_shiftLeft_getLsbD level 8 j hj,
    BitVec.getLsbD_setWidth, decide_eq_true hj, Bool.true_and]

theorem encode_line_matches (line : BitVec 6) (level : Bool) :
    (encode (.iaLine line level)).desc &&& 0xFFFFFEC0 = 0x20000000 := by
  refine BitVec.eq_of_getLsbD_eq fun j hj => ?_
  have hline : 6 ≤ j → line.getLsbD j = false := BitVec.getLsbD_of_ge line j
  rw [BitVec.getLsbD_and, encode_line_getLsbD line level j hj, lineMask_getLsbD j hj, lineRow_getLsbD j hj]
  grind

/-- The line row reads back the operands of a LINE request. -/
theorem decodeLine_encode (line : BitVec 6) (level : Bool) :
    decodeLine (encode (.iaLine line level)) = some (.iaLine line level) := by
  have hlevel : (encode (.iaLine line level)).desc.getLsbD 8 = level := by
    rw [encode_line_getLsbD line level 8 (by decide), BitVec.getLsbD_of_ge line 8 (by decide)]
    simp
  have hline : (encode (.iaLine line level)).desc.extractLsb' 0 6 = line := by
    refine BitVec.eq_of_getLsbD_eq fun j hj => ?_
    have h29 : j ≠ 29 := by omega
    have h8 : j ≠ 8 := by omega
    rw [BitVec.getLsbD_extractLsb', Nat.zero_add, encode_line_getLsbD line level j (by omega)]
    simp [hj, h29, h8]
  rw [decodeLine, if_pos ⟨rfl, encode_line_matches line level⟩, hlevel, hline]

/-- A descriptor the line row matches is the one of the request it is read as. -/
theorem encode_line_of_matches (d : Word) (h : d &&& 0xFFFFFEC0 = 0x20000000) :
    (encode (.iaLine (d.extractLsb' 0 6) (d.getLsbD 8))).desc = d := by
  refine BitVec.eq_of_getLsbD_eq fun j hj => ?_
  have hbit := congrArg (BitVec.getLsbD · j) h
  simp only [BitVec.getLsbD_and, lineMask_getLsbD j hj, lineRow_getLsbD j hj] at hbit
  rw [encode_line_getLsbD _ _ j hj, BitVec.getLsbD_extractLsb', Nat.zero_add]
  grind

/-- The line row is one of the IA's, with bits 27:9 and 7:6 clear. -/
theorem block_and_reserved_of_line (p : Packet) (h : p.desc &&& 0xFFFFFEC0 = 0x20000000) :
    p.block = .ia ∧ p.desc &&& 0x0FFFFEC0 = 0 := by
  constructor
  · have hbit := congrArg (BitVec.getLsbD · 31) h
    exact Laws.block_ia p p.desc rfl (by simpa using hbit)
  · calc p.desc &&& 0x0FFFFEC0
        = p.desc &&& 0xFFFFFEC0 &&& 0x0FFFFEC0 := by rw [BitVec.and_assoc]; rfl
      _ = 0 := by rw [h]; rfl

/-! ## The fallback rows and the reason of a refusal (R91 to R93, R98) -/

/-- The fallback rows decide the kind. -/
theorem kind_of_fallback (p : Packet) (unitKind : Word) (h : p.desc &&& 0xF0000000 = unitKind) :
    p.kind = (bare unitKind).kind := by
  have hkind : (p.desc &&& 0xF0000000).extractLsb' 28 3 = p.kind := by
    rw [BitVec.extractLsb'_and]
    exact BitVec.and_allOnes
  rw [← hkind, h]
  rfl

theorem decodeFallback_of_kind (p : Packet) (h0 : p.kind ≠ 0) (h1 : p.kind ≠ 1) : decodeFallback p = none := by
  have hrow : ∀ unitKind : Word, (bare unitKind).kind = 0 ∨ (bare unitKind).kind = 1 →
      p.desc &&& 0xF0000000 ≠ unitKind := by
    rintro unitKind (hk | hk) h
    · exact h0 ((kind_of_fallback p unitKind h).trans hk)
    · exact h1 ((kind_of_fallback p unitKind h).trans hk)
  rw [decodeFallback, if_neg (hrow _ (.inl rfl)), if_neg (hrow _ (.inr rfl)), if_neg (hrow _ (.inl rfl)),
    if_neg (hrow _ (.inr rfl))]

/-- A request read by a fallback row encodes to the packet's descriptor and lane. -/
theorem encode_of_decodeFallback (p : Packet) (i : Instr) (h : decodeFallback p = some i) :
    (encode i).desc = p.desc ∧ (encode i).offHi = p.offHi := by
  unfold decodeFallback at h
  split_ifs at h with h1 h2 h3 h4 <;> cases h
  · exact atOffset_of_offset p _ h1
  · exact atOffset_of_offset p _ h2
  · exact atOffset_of_offset p _ h3
  · exact atOffset_of_offset p _ h4

/-- A LINE descriptor that matches no row is refused by its unit. -/
theorem decodeReason_line (p : Packet) (hk : p.kind = 2) :
    decodeReason p = if p.block = .spi then .lineToSpi else .lineReservedBits := by
  unfold decodeReason Packet.block
  rw [if_pos hk]
  cases p.desc.getLsbD 31 <;> rfl

theorem decodeReason_reset (p : Packet) (hk : p.kind = 3) : decodeReason p = .resetReservedBits := by
  rw [decodeReason, hk]
  rfl

theorem decodeReason_other (p : Packet) (h2 : p.kind ≠ 2) (h3 : p.kind ≠ 3) :
    decodeReason p = .noSuchKind p.kind := by
  rw [decodeReason, if_neg h2, if_neg h3]

/-! ## The decode (R98) -/

/-- A packet that decodes matches a row of one of the three legs. -/
theorem decode_ok_cases (p : Packet) (i : Instr) (h : decode p = .ok i) :
    decodeExact p = some i ∨ decodeLine p = some i ∨ decodeFallback p = some i := by
  unfold decode at h
  split_ifs at h
  split at h
  · exact .inl (Except.ok.inj h ▸ ‹_›)
  split at h
  · exact .inr (.inl (Except.ok.inj h ▸ ‹_›))
  split at h
  · exact .inr (.inr (Except.ok.inj h ▸ ‹_›))
  · cases h

theorem decode_of_exact (p : Packet) (i : Instr) (hn : p.nested = false) (hlane : p.offHi = 0)
    (hrow : (exactRows p.value p.size).lookup p.desc = some i) : decode p = .ok i := by
  simp [decode, hn, decodeExact, hlane, hrow]

/-- `decode_of_exact` where the row carries the access size `n`. -/
theorem decode_withSize_of_exact (p : Packet) (n : Byte) (i : Instr) (hn : p.nested = false) (hlane : p.offHi = 0)
    (hrow : (exactRows p.value n).lookup p.desc = some i) : decode (p.withSize n) = .ok i := by
  refine decode_of_exact _ i hn hlane ?_
  rw [withSize_size]
  exact hrow

/-- A step at a LINE or RESET packet or one of no kind, if it matches neither the exact rows nor the line row, is
refused for the reason the descriptor gives. -/
theorem step_refused_of_no_row (s : State) (p : Packet) (rest : List Packet) (why : DecodeError)
    (hin : s.inputs = p :: rest) (hn : p.nested = false) (h0 : p.kind ≠ 0) (h1 : p.kind ≠ 1)
    (hreset : p.kind = 3 → p.desc &&& 0x0FFFFFFF ≠ 0) (hline : decodeLine p = none)
    (hwhy : decodeReason p = why) : step s = .refused (.noRequest why) := by
  have hd : decode p = .error (decodeReason p) := by
    simp [decode, hn, decodeExact_of_kind p h0 h1 hreset, hline, decodeFallback_of_kind p h0 h1]
  exact step_refused_of_decode s p rest why hin (hwhy ▸ hd)

theorem decode_encode_line (line : BitVec 6) (level : Bool) :
    decode (encode (.iaLine line level)) = .ok (.iaLine line level) := by
  have hk := kind_of_line _ (encode_line_matches line level)
  have hexact : decodeExact (encode (.iaLine line level)) = none := by
    apply decodeExact_of_kind <;> simp [hk]
  have hn : (encode (.iaLine line level)).nested = false := rfl
  simp [decode, hn, hexact, decodeLine_encode]

theorem not_mem_of_wfIaUndef (off : Word) (h : wfIaUndef off = true) : off ∉ iaOffsets := by
  simpa [wfIaUndef] using h

theorem not_mem_of_wfSpiUndef (off : Word) (h : wfSpiUndef off = true) : off ∉ spiOffsets := by
  simpa [wfSpiUndef] using h

/-! ## The reports of a request (R99, R211) -/

/-- Whether an event is a diagnostic report `DIAG(unit, dir, offset)` (R11). -/
def Event.isDiag : Event → Bool
  | .diag _ _ _ => true
  | .irq _ => false
  | .cs _ _ => false
  | .xfer _ _ => false

/-- The reports among the events output so far. -/
def State.reports (s : State) : List Event := s.events.filter Event.isDiag

theorem mem_reports (s : State) (u : Block) (d : Dir) (off : Word) :
    Event.diag u d off ∈ s.reports ↔ Event.diag u d off ∈ s.events :=
  List.mem_filter.trans (and_iff_left rfl)

/-! Only `emit` of a report adds one -/

theorem reports_emit_diag (s : State) (u : Block) (d : Dir) (off : Word) :
    (s.emit (.diag u d off)).reports = s.reports ++ [.diag u d off] :=
  List.filter_append ..

theorem reports_emit_of_not_diag (s : State) (e : Event) (h : e.isDiag = false) :
    (s.emit e).reports = s.reports := by
  simp [State.reports, h]

theorem reports_recompute (s : State) : s.recompute.reports = s.reports :=
  reports_emit_of_not_diag (s.withIa _) (.irq _) rfl

theorem reports_recomputeIfIgnored (s : State) : s.recomputeIfIgnored.reports = s.reports := by
  unfold State.recomputeIfIgnored
  split
  · exact reports_recompute s
  · rfl

theorem reports_storeIa (s : State) (a : Ia) : (s.storeIa a).reports = s.reports :=
  reports_recompute (s.withIa a)

theorem reports_iaReset (s : State) : s.iaReset.reports = s.reports :=
  reports_emit_of_not_diag (s.withIa _) (.irq _) rfl

theorem reports_driveCs (s : State) (n : BitVec 2) (level : Bool) :
    (s.driveCs n level).reports = s.reports :=
  reports_emit_of_not_diag (s.withSpi _) (.cs n level) rfl

theorem reports_raiseCs (s : State) : s.raiseCs.reports = s.reports := by
  simp [State.raiseCs, reports_driveCs]

theorem reports_driveSelected (s : State) (index : CsIndex) (level : Bool) :
    (s.driveSelected index level).reports = s.reports := by
  cases index with
  | none => rfl
  | some n => exact reports_driveCs s n level

theorem reports_updateCs (s : State) (index : CsIndex) (level : Bool) :
    (s.updateCs index level).reports = s.reports := by
  unfold State.updateCs
  split
  · rfl
  · exact (reports_driveSelected _ index level).trans (reports_raiseCs s)

theorem reports_exchange (s : State) (i : Nat) : (s.exchange i).reports = s.reports :=
  reports_emit_of_not_diag ((s.withSpi _).withDevice _) (.xfer _ _) rfl

theorem reports_exchanges (n i : Nat) (s : State) : (State.exchanges n i s).reports = s.reports := by
  induction n generalizing i s with
  | zero => rfl
  | succ n ih => exact (ih (i + 1) (s.exchange i)).trans (reports_exchange s i)

/-- The bracket of a burst makes no report. -/
theorem reports_bracketCs (s : State) (auto level : Bool) :
    (if auto then s.updateCs s.spi.csIndex level else s).reports = s.reports := by
  split
  · exact reports_updateCs s _ level
  · rfl

theorem reports_runBurst (s : State) : s.runBurst.reports = s.reports :=
  ((reports_bracketCs _ (autoCs s.spi) true).trans (reports_exchanges _ 0 _)).trans
    (reports_bracketCs s (autoCs s.spi) false)

theorem reports_tfrCtlWrite (s : State) (v : Word) : (s.tfrCtlWrite v).reports = s.reports := by
  have hcs := reports_updateCs s (some (csSelField v)) (csLvlField v)
  unfold State.tfrCtlWrite
  dsimp only
  split
  · exact (reports_runBurst _).trans hcs
  · exact hcs

theorem reports_spiReset (s : State) : s.spiReset.reports = s.reports := by
  change s.resetCs.reports = s.reports
  unfold State.resetCs
  dsimp only
  split
  · exact (reports_driveCs _ 0 true).trans (reports_raiseCs _)
  · exact reports_updateCs (s.storeCs (some 0) true) (some 0) true

theorem reports_tfrCtlRead (s : State) : s.tfrCtlRead.reports = s.reports := by
  unfold State.tfrCtlRead
  split <;> rfl

theorem reports_fifoCtlWrite (s : State) (v : Word) : (s.fifoCtlWrite v).reports = s.reports := by
  rw [fifoCtlWrite_eq]
  rfl

/-- The report a request makes: the one of its undefined offset (R99, R211). -/
def reportOf : Instr → Option Event
  | .iaRUndef off => some (.diag .ia .read off)
  | .iaWUndef off _ => some (.diag .ia .write off)
  | .spiRUndef off _ => some (.diag .spi .read off)
  | .spiWUndef off _ _ => some (.diag .spi .write off)
  | _ => none

theorem reportOf_eq_some (i : Instr) (u : Block) (d : Dir) (off : Word) :
    reportOf i = some (.diag u d off) ↔
      (u = .ia ∧ d = .read ∧ i = .iaRUndef off) ∨
      (u = .ia ∧ d = .write ∧ ∃ v, i = .iaWUndef off v) ∨
      (u = .spi ∧ d = .read ∧ ∃ n, i = .spiRUndef off n) ∨
      (u = .spi ∧ d = .write ∧ ∃ v n, i = .spiWUndef off v n) := by
  constructor
  · intro h
    unfold reportOf at h
    split at h <;> cases h <;> simp
  · rintro (⟨rfl, rfl, rfl⟩ | ⟨rfl, rfl, _, rfl⟩ | ⟨rfl, rfl, _, rfl⟩ | ⟨rfl, rfl, _, _, rfl⟩) <;> rfl

/-- A request that makes no report, as an SPI access: its effect alone matters. -/
theorem reports_of_spiAccess {n : Byte} {s t t' : State} (h : spiAccess n s t = .next t')
    (ht : t.reports = s.reports) : t'.reports = s.reports := by
  obtain ⟨-, -, rfl⟩ := (spiAccess_next _ _ _ _).mp h
  exact ht

/-- A request that completes without being at an undefined offset makes no report. -/
theorem exec_reports_of_none (i : Instr) (s t : State) (hi : reportOf i = none) (h : exec i s = .next t) :
    t.reports = s.reports := by
  cases i with
  | iaRUndef | iaWUndef | spiRUndef | spiWUndef => cases hi
  | iaRVector | iaRBaseAddr | iaRNmiCtl | iaRPending0 | iaRPending1 | iaREnable0 | iaREnable1 | iaRMask0
  | iaRMask1 =>
    cases h
    rfl
  | iaWVector v =>
    cases h
    exact reports_recomputeIfIgnored s
  | iaWBaseAddr | iaWNmiCtl | iaWPending0 | iaWPending1 | iaWEnable0 | iaWEnable1 | iaWMask0 | iaWMask1 =>
    cases h
    exact reports_storeIa s _
  | iaLine line level =>
    obtain ⟨-, rfl⟩ := (lineAccess_next _ _ _).mp h
    exact reports_storeIa s _
  | iaReset =>
    cases h
    exact reports_iaReset s
  | spiRTfrCtl => exact reports_of_spiAccess h (reports_tfrCtlRead s)
  | spiWTfrCtl v => exact reports_of_spiAccess h (reports_tfrCtlWrite s v)
  | spiWFifoCtl v => exact reports_of_spiAccess h (reports_fifoCtlWrite s v)
  | spiWGlbCtl v =>
    refine reports_of_spiAccess h ?_
    split
    · exact reports_spiReset s
    · rfl
  | spiReset =>
    obtain ⟨-, rfl⟩ := (spiBuilt_next _ _ _).mp h
    exact reports_spiReset s
  | _ => exact reports_of_spiAccess h rfl

/-- A request at an undefined offset that completes makes its report. -/
theorem exec_reports_of_some (i : Instr) (s t : State) (e : Event) (hi : reportOf i = some e)
    (h : exec i s = .next t) : t.reports = s.reports ++ [e] := by
  cases i with
  | iaRUndef off =>
    cases hi
    obtain ⟨-, ht⟩ := (undefAccess_next _ _ _ _).mp h
    cases ht
    exact reports_emit_diag s _ _ _
  | iaWUndef off v =>
    cases hi
    obtain ⟨-, ht⟩ := (undefAccess_next _ _ _ _).mp h
    cases ht
    exact (reports_recomputeIfIgnored _).trans (reports_emit_diag s _ _ _)
  | spiRUndef | spiWUndef =>
    cases hi
    obtain ⟨-, ht⟩ := (undefAccess_next _ _ _ _).mp h
    obtain ⟨-, -, rfl⟩ := (spiAccess_next _ _ _ _).mp ht
    exact reports_emit_diag s _ _ _
  | _ => cases hi

/-! ## The statements of 30_encoding.md -/

/-- Settles O2. An exact row is found at its descriptor, the line row reads its operands back, and at an undefined
offset the fallback row of the unit and kind does. -/
theorem decodeOfEncodeIsTheRequest : Obligations.DecodeOfEncodeIsTheRequest := by
  intro i hwf
  cases i with
  | iaRUndef off =>
    have hoff : (encode (.iaRUndef off)).offset = off := atOffset_offset _ off rfl
    obtain ⟨hd, -, -, -⟩ := undefinedOffsetsDecodeToTheFallbackRows (encode (.iaRUndef off)) rfl
    rw [hoff] at hd
    exact hd (Laws.DescriptorUnit.iaRUndef off) (atOffset_kind _ off) (not_mem_of_wfIaUndef off hwf)
  | iaWUndef off v =>
    have hoff : (encode (.iaWUndef off v)).offset = off := atOffset_offset _ off rfl
    obtain ⟨-, hd, -, -⟩ := undefinedOffsetsDecodeToTheFallbackRows (encode (.iaWUndef off v)) rfl
    rw [hoff] at hd
    exact hd (Laws.DescriptorUnit.iaWUndef off v) (atOffset_kind _ off) (not_mem_of_wfIaUndef off hwf)
  | spiRUndef off n =>
    have hoff : (encode (.spiRUndef off n)).offset = off := atOffset_offset _ off rfl
    have hsize : (encode (.spiRUndef off n)).size = n := withSize_size _ n
    obtain ⟨hdef, -⟩ := Bool.and_eq_true_iff.mp hwf
    obtain ⟨-, -, hd, -⟩ := undefinedOffsetsDecodeToTheFallbackRows (encode (.spiRUndef off n)) rfl
    rw [hoff, hsize] at hd
    exact hd (Laws.DescriptorUnit.spiRUndef off n) (atOffset_kind _ off) (not_mem_of_wfSpiUndef off hdef)
  | spiWUndef off v n =>
    have hoff : (encode (.spiWUndef off v n)).offset = off := atOffset_offset _ off rfl
    have hsize : (encode (.spiWUndef off v n)).size = n := withSize_size _ n
    obtain ⟨hdom, -⟩ := Bool.and_eq_true_iff.mp hwf
    obtain ⟨hdef, -⟩ := Bool.and_eq_true_iff.mp hdom
    obtain ⟨-, -, -, hd⟩ := undefinedOffsetsDecodeToTheFallbackRows (encode (.spiWUndef off v n)) rfl
    rw [hoff, hsize] at hd
    exact hd (Laws.DescriptorUnit.spiWUndef off v n) (atOffset_kind _ off) (not_mem_of_wfSpiUndef off hdef)
  | iaLine line level => exact decode_encode_line line level
  | iaRVector | iaRBaseAddr | iaRNmiCtl | iaRPending0 | iaRPending1 | iaREnable0 | iaREnable1 | iaRMask0
  | iaRMask1 | iaWVector | iaWBaseAddr | iaWNmiCtl | iaWPending0 | iaWPending1 | iaWEnable0 | iaWEnable1
  | iaWMask0 | iaWMask1 | iaReset | spiReset => exact decode_of_exact _ _ rfl rfl rfl
  | _ => exact decode_withSize_of_exact _ _ _ rfl rfl rfl

/-- Settles O3, by the leg of the decode the packet matched. -/
theorem decodedRequestHasItsDescriptor : Obligations.DecodedRequestHasItsDescriptor := by
  intro p i h
  obtain hexact | hline | hfallback := decode_ok_cases p i h
  · obtain ⟨hlane, hrow⟩ := mem_exactRows_of_decodeExact p i hexact
    rw [hlane]
    exact exactRows_encode _ _ _ hrow
  · obtain ⟨⟨hlane, hmatch⟩, hi⟩ := Option.ite_none_right_eq_some.mp hline
    cases hi
    exact ⟨encode_line_of_matches p.desc hmatch, hlane.symm⟩
  · exact encode_of_decodeFallback p i hfallback

/-- Settles O5: a reserved descriptor matches no row, and the kind, then the unit, give the reason. -/
theorem reservedDescriptorsAreRefused : Obligations.ReservedDescriptorsAreRefused := by
  intro s p rest hin hn
  refine ⟨fun hk => ?_, fun hk hb => ?_, fun hk hb hbits => ?_, fun hk hbits => ?_⟩
  · have hne : ∀ k : BitVec 3, k.toNat < 4 → p.kind ≠ k := by
      rintro _ hlt rfl
      omega
    have h2 := hne 2 (by decide)
    have h3 := hne 3 (by decide)
    exact step_refused_of_no_row s p rest _ hin hn (hne 0 (by decide)) (hne 1 (by decide)) (absurd · h3)
      (decodeLine_of_kind p h2) (decodeReason_other p h2 h3)
  · have hline : decodeLine p = none := if_neg fun h => by
      obtain ⟨hia, -⟩ := block_and_reserved_of_line p h.right
      simp [hia] at hb
    have hwhy := (decodeReason_line p hk).trans (if_pos hb)
    exact step_refused_of_no_row s p rest _ hin hn (by simp [hk]) (by simp [hk]) (by simp [hk]) hline hwhy
  · have hline : decodeLine p = none := if_neg fun h => by
      obtain ⟨-, hclear⟩ := block_and_reserved_of_line p h.right
      exact hbits hclear
    have hwhy := (decodeReason_line p hk).trans (if_neg (by simp [hb]))
    exact step_refused_of_no_row s p rest _ hin hn (by simp [hk]) (by simp [hk]) (by simp [hk]) hline hwhy
  · exact step_refused_of_no_row s p rest _ hin hn (by simp [hk]) (by simp [hk]) (fun _ => hbits)
      (decodeLine_of_kind p (by simp [hk])) (decodeReason_reset p hk)

/-- Settles O14: from an empty list the reports of a request are the one of its undefined offset, if it has one. -/
theorem reportsExactlyAtUndefinedOffsets : Obligations.ReportsExactlyAtUndefinedOffsets := by
  intro i s t u d off h hempty
  have hnone : s.reports = [] := by rw [State.reports, hempty]; rfl
  rw [← mem_reports, ← reportOf_eq_some]
  cases hi : reportOf i with
  | none => simp [exec_reports_of_none i s t hi h, hnone]
  | some e => simp [exec_reports_of_some i s t e hi h, hnone, eq_comm]

/-- A word whose packet is that of a request in the domain is read as this request. -/
theorem decodeTableWord_of_encode (nbits w : Nat) (i : Instr) (hwf : i.wf = true)
    (hw : Packet.ofBits (w % 2 ^ nbits) = encode i) : decodeTableWord nbits w = some i := by
  rw [decodeTableWord, hw, decodeOfEncodeIsTheRequest i hwf]

/-- Settles O1: each word is the packet its request encodes to. -/
theorem descriptorsDecodeToTheirRequests : Obligations.DescriptorsDecodeToTheirRequests := by
  have hword := decodeTableWord_of_encode
  refine ⟨hword _ _ _ ?_ ?_, hword _ _ _ ?_ ?_, hword _ _ _ ?_ ?_, hword _ _ _ ?_ ?_, hword _ _ _ ?_ ?_,
    hword _ _ _ ?_ ?_, hword _ _ _ ?_ ?_, hword _ _ _ ?_ ?_⟩ <;> decide

end Sys2Proof.Machine

/-! PROOFS. A recompute said by banks and by line numbers, the IA requests built on it, and the statements of
40_intc.md. -/

namespace Sys2Proof.Machine

/-! ## Bits of a bank word (R14, R110, R114) -/

theorem oneBit_getLsbD (k j : Nat) (hk : k < 32) : (oneBit k).getLsbD j = decide (j = k) := by
  have htwo : oneBit k = BitVec.twoPow 32 k := (BitVec.twoPow_eq 32 k).symm
  rw [htwo, BitVec.getLsbD_twoPow, decide_eq_true hk, Bool.true_and]
  exact decide_eq_decide.mpr eq_comm

theorem setBit_getLsbD (v : Word) (k j : Nat) (level : Bool) (hk : k < 32) (hj : j < 32) :
    (setBit v k level).getLsbD j = if j = k then level else v.getLsbD j := by
  cases level with
  | false =>
    calc (setBit v k false).getLsbD j
        = (v.getLsbD j && !decide (j = k)) := by
          rw [setBit, if_neg Bool.false_ne_true, BitVec.getLsbD_and, BitVec.getLsbD_not, oneBit_getLsbD k j hk,
            decide_eq_true hj, Bool.true_and]
      _ = if j = k then false else v.getLsbD j := by split <;> simp [*]
  | true =>
    calc (setBit v k true).getLsbD j
        = (v.getLsbD j || decide (j = k)) := by
          rw [setBit, if_pos rfl, BitVec.getLsbD_or, oneBit_getLsbD k j hk]
      _ = if j = k then true else v.getLsbD j := by split <;> simp [*]

/-- OR-ing the complement of a bit that is set already floods the word. -/
theorem or_not_oneBit (v : Word) (k : Nat) (hv : v.getLsbD k = true) : v ||| ~~~(oneBit k) = 0xFFFFFFFF := by
  have hk : k < 32 := BitVec.lt_of_getLsbD hv
  have hones : (0xFFFFFFFF : Word) = BitVec.allOnes 32 := rfl
  refine BitVec.eq_of_getLsbD_eq fun j hj => ?_
  rw [hones, BitVec.getLsbD_or, BitVec.getLsbD_not, oneBit_getLsbD k j hk, BitVec.getLsbD_allOnes,
    decide_eq_true hj, Bool.true_and]
  by_cases h : j = k
  · rw [h, hv, Bool.true_or]
  · rw [decide_eq_false h, Bool.not_false, Bool.or_true]

theorem ctz32_lt_iff (v : Word) : ctz32 v < 32 ↔ v ≠ 0 := by
  obtain ⟨hzero, hne⟩ := ctz32IsTheLowestSetBit v
  refine ⟨?_, fun h => (hne h).left⟩
  rintro hlt rfl
  exact absurd (hzero rfl) (Nat.ne_of_lt hlt)

/-! ## Lines by bank and bit (R30, R216, R219) -/

theorem Bank.num_inj {b c : Bank} (h : b.num = c.num) : b = c := by
  cases b <;> cases c <;> simp_all [Bank.num]

theorem Ia.pending_setPending_same (a : Ia) (b : Bank) (w : Word) : (a.setPending b w).pending b = w := by
  cases b <;> rfl

theorem Ia.pending_setPending_other (a : Ia) (b c : Bank) (w : Word) (h : b ≠ c) :
    (a.setPending c w).pending b = a.pending b := by
  cases b <;> cases c <;> simp_all

theorem exists_bank_bit (n : Nat) (h : n < 64) : ∃ (b : Bank) (k : Nat), k < 32 ∧ n = b.num * 32 + k := by
  by_cases hn : n < 32
  · exact ⟨.zero, n, hn, by simp [Bank.num]⟩
  · exact ⟨.one, n - 32, by omega, by simp only [Bank.num]; omega⟩

theorem bank_line_lt (b : Bank) (k : Nat) (hk : k < 32) : b.num * 32 + k < 64 := by
  cases b <;> simp only [Bank.num] <;> omega

/-- The line k of bank b is bit k of the bank's word. -/
theorem lineFlag_bank (w : Bank → Word) (b : Bank) (k : Nat) (hk : k < 32) :
    lineFlag (w .zero) (w .one) (b.num * 32 + k) = (w b).getLsbD k := by
  cases b <;> simp [lineFlag, Bank.num, hk]

/-- The candidates as R135 writes them. -/
theorem Ia.candidates_eq (a : Ia) (b : Bank) : a.candidates b = a.pending b &&& a.enable b &&& ~~~(a.mask b) := by
  rw [Ia.candidates, BitVec.and_comm, BitVec.and_assoc]

theorem Ia.candidate_bank (a : Ia) (b : Bank) (k : Nat) (hk : k < 32) :
    a.candidate (b.num * 32 + k) = (a.candidates b).getLsbD k := by
  have hp : lineFlag a.pending0 a.pending1 _ = _ := lineFlag_bank a.pending b k hk
  have he : lineFlag a.enable0 a.enable1 _ = _ := lineFlag_bank a.enable b k hk
  have hm : lineFlag a.mask0 a.mask1 _ = _ := lineFlag_bank a.mask b k hk
  rw [Ia.candidate, hp, he, hm, a.candidates_eq b, BitVec.getLsbD_and, BitVec.getLsbD_and, BitVec.getLsbD_not,
    decide_eq_true hk, Bool.true_and]

theorem Ia.noCandidate_of_banks (a : Ia) (h : ∀ b, a.candidates b = 0) : a.NoCandidate := by
  intro n hn
  obtain ⟨b, k, hk, rfl⟩ := exists_bank_bit n hn
  rw [a.candidate_bank b k hk, h b]
  exact BitVec.getLsbD_zero

theorem Ia.Lowest.unique {a : Ia} {m n : Nat} (hm : a.Lowest m) (hn : a.Lowest n) : m = n := by
  obtain ⟨-, hmc, hmlow⟩ := hm
  obtain ⟨-, hnc, hnlow⟩ := hn
  have hmn : ¬ m < n := fun h => by simp [hnlow m h] at hmc
  have hnm : ¬ n < m := fun h => by simp [hmlow n h] at hnc
  omega

theorem Ia.Lowest.not_noCandidate {a : Ia} {n : Nat} (h : a.Lowest n) : ¬ a.NoCandidate := by
  obtain ⟨hlt, hc, -⟩ := h
  intro hnone
  simp [hnone n hlt] at hc

/-! ## The winning bank (R110) -/

/-- Bank b holds the line a recompute selects: it has a candidate, and no bank before it has one. -/
def Ia.Wins (a : Ia) (b : Bank) : Prop := a.candidates b ≠ 0 ∧ (b = .one → a.candidates .zero = 0)

/-- The number of the lowest candidate of a bank. -/
def Ia.lowestLine (a : Ia) (b : Bank) : Nat := b.num * 32 + ctz32 (a.candidates b)

/-- The registers with a vector and the output that follows it (R113). -/
def Ia.withVector (a : Ia) (v : Word) : Ia := { a with vector := v, irqOut := irqOf v }

/-- No line of an earlier bank, and none below it in its own, is a candidate. -/
theorem Ia.Wins.lowest {a : Ia} {b : Bank} (h : a.Wins b) : a.Lowest (a.lowestLine b) := by
  obtain ⟨hne, hbefore⟩ := h
  obtain ⟨hlt, hset, hlow⟩ := ctz32_spec_of_ne_zero _ hne
  have hline : a.lowestLine b < 64 := bank_line_lt b _ hlt
  refine ⟨hline, by rwa [Ia.lowestLine, a.candidate_bank b _ hlt], fun m hm => ?_⟩
  obtain ⟨c, k, hk, rfl⟩ := exists_bank_bit m (hm.trans hline)
  rw [a.candidate_bank c k hk]
  unfold Ia.lowestLine at hm
  cases b with
  | zero =>
    cases c with
    | zero => exact hlow k (by omega)
    | one => simp only [Bank.num] at hm; omega
  | one =>
    cases c with
    | zero => rw [hbefore rfl]; exact BitVec.getLsbD_zero
    | one => exact hlow k (by omega)

/-- The winner's pending bit is set, so the OR floods its bank. -/
theorem Ia.pending_flooded (a : Ia) (b : Bank) (h : a.candidates b ≠ 0) :
    a.pending b ||| ~~~(oneBit (ctz32 (a.candidates b))) = 0xFFFFFFFF := by
  obtain ⟨-, hset, -⟩ := ctz32_spec_of_ne_zero _ h
  rw [Ia.candidates, BitVec.getLsbD_and, Bool.and_eq_true] at hset
  exact or_not_oneBit _ _ hset.right

/-- Everything a recompute can do to the registers: flood the winning bank and give its lowest line's vector, or with
no candidate give the vector 0. -/
theorem Ia.recomputed_cases (a : Ia) :
    (∃ b, a.Wins b ∧
      a.recomputed = (a.setPending b 0xFFFFFFFF).withVector (BitVec.ofNat 32 (a.lowestLine b * 4))) ∨
    ((∀ b, a.candidates b = 0) ∧ a.recomputed = a.withVector 0) := by
  have hrec : a.recomputed = (scanBanks a).ia.withVector (BitVec.ofNat 32 (scanBanks a).v) := rfl
  rw [hrec]
  obtain ⟨h0, he⟩ | ⟨h0, h1, he⟩ | ⟨h0, h1, he⟩ := scanBanks_cases a <;> rw [ctz32_lt_iff] at h0 <;> rw [he]
  · left
    refine ⟨.zero, ⟨h0, nofun⟩, ?_⟩
    rw [a.pending_flooded .zero h0]
    simp [Ia.lowestLine, Bank.num]
  · left
    rw [ctz32_lt_iff] at h1
    refine ⟨.one, ⟨h1, fun _ => not_not.mp h0⟩, ?_⟩
    rw [a.pending_flooded .one h1]
    simp [Ia.lowestLine, Bank.num]
  · right
    rw [ctz32_lt_iff] at h1
    refine ⟨fun b => ?_, rfl⟩
    cases b with
    | zero => exact not_not.mp h0
    | one => exact not_not.mp h1

/-! ## What a recompute leaves (R110 to R113, R135) -/

/-- The recompute by line numbers: the lowest candidate is the winning bank's lowest line. -/
theorem Ia.recomputed_afterRecompute (a : Ia) : a.AfterRecompute a.recomputed := by
  obtain ⟨b, hwins, he⟩ | ⟨hnone, he⟩ := a.recomputed_cases <;> rw [he]
  · have hline : ∀ n, a.Lowest n → n = a.lowestLine b := fun n hn => hn.unique hwins.lowest
    obtain ⟨hlt, -, -⟩ := ctz32_spec_of_ne_zero _ hwins.left
    refine ⟨?_, ?_, ?_, ?_, ?_, ?_, rfl, fun n hn => ?_, fun h => absurd h hwins.lowest.not_noCandidate⟩
    iterate 6 cases b <;> rfl
    rw [hline n hn, Nat.mul_comm 4]
    cases b <;> simp [Ia.withVector, Ia.setPending, Ia.lowestLine, Bank.num, hlt]
  · exact ⟨rfl, rfl, rfl, rfl, rfl, rfl, rfl,
      fun n hn => absurd (a.noCandidate_of_banks hnone) hn.not_noCandidate, fun _ => ⟨rfl, rfl, rfl⟩⟩

/-- Only a candidate of bank 0 makes a recompute change bank 0's pending word. -/
theorem Ia.recomputed_pending_zero (a : Ia) :
    a.recomputed.pending .zero = if a.candidates .zero = 0 then a.pending .zero else 0xFFFFFFFF := by
  obtain ⟨b, ⟨hne, hbefore⟩, he⟩ | ⟨hnone, he⟩ := a.recomputed_cases <;> rw [he]
  · cases b with
    | zero => rw [if_neg hne]; rfl
    | one => rw [if_pos (hbefore rfl)]; rfl
  · rw [if_pos (hnone .zero)]
    rfl

/-! ## Requests that recompute (R136) -/

theorem completesRecomputing_of_recompute {i : Instr} {s t : State} {before : List Event}
    (ht : t = { s with ia := t.ia, events := s.events ++ before }) (h : exec i s = .next t.recompute) :
    CompletesRecomputing i s t.ia before := by
  refine ⟨t.ia.recomputed, t.ia.recomputed_afterRecompute, h.trans ?_⟩
  rw [ht]
  rfl

theorem completesRecomputing_of_storeIa {i : Instr} {s : State} {a : Ia} (h : exec i s = .next (s.storeIa a)) :
    CompletesRecomputing i s a [] :=
  completesRecomputing_of_recompute (t := s.withIa a) (by simp [State.withIa]) h

theorem recomputeIfIgnored_of_true (s : State) (h : s.params.recomputeOnIgnoredWrite = true) :
    s.recomputeIfIgnored = s.recompute :=
  if_pos h

theorem recomputeIfIgnored_of_false (s : State) (h : s.params.recomputeOnIgnoredWrite = false) :
    s.recomputeIfIgnored = s :=
  if_neg (by simp [h])

/-! ## The line notification (R114) -/

theorem line_eq_bank_bit (line : BitVec 6) : line.toNat = (lineBank line).num * 32 + lineBit line := by
  have hlt : line.toNat < 64 := line.isLt
  unfold lineBank lineBit
  split <;> simp only [Bank.num] <;> omega

/-- A notification copies the level into its own line's pending bit. -/
theorem Ia.pending_notified (a : Ia) (line : BitVec 6) (level : Bool) (b : Bank) (k : Nat) (hk : k < 32) :
    ((a.notified line level).pending b).getLsbD k =
      if b.num * 32 + k = line.toNat then level else (a.pending b).getLsbD k := by
  have hbit : lineBit line < 32 := Nat.mod_lt _ (by decide)
  rw [line_eq_bank_bit line, Ia.notified]
  by_cases hb : b = lineBank line
  · rw [← hb, Ia.pending_setPending_same, setBit_getLsbD _ _ _ _ hbit hk]
    simp only [Nat.add_left_cancel_iff]
  · rw [Ia.pending_setPending_other _ _ _ _ hb]
    exact (if_neg fun h => hb (Bank.num_inj (by omega))).symm

theorem Ia.notified_eq (a : Ia) (line : BitVec 6) (level : Bool) :
    a.notified line level =
      { a with pending0 := (a.notified line level).pending0, pending1 := (a.notified line level).pending1 } := by
  unfold Ia.notified
  cases lineBank line <;> rfl

/-! ## The statements of 40_intc.md -/

/-- Settles O19, by the winning bank. -/
theorem recomputeObeysTheSelectionLaw : Obligations.RecomputeObeysTheSelectionLaw := by
  intro s c0 c1 hc0 hc1
  have h0 : c0 = s.ia.candidates .zero := hc0.trans (s.ia.candidates_eq .zero).symm
  have h1 : c1 = s.ia.candidates .one := hc1.trans (s.ia.candidates_eq .one).symm
  rw [h0, h1, State.recompute_ia]
  obtain ⟨b, ⟨hne, hbefore⟩, he⟩ | ⟨hnone, he⟩ := s.ia.recomputed_cases <;> rw [he]
  · cases b with
    | zero => rw [if_pos hne]; rfl
    | one => rw [if_neg (not_not.mpr (hbefore rfl)), if_pos hne]; rfl
  · rw [if_neg (not_not.mpr (hnone .zero)), if_neg (not_not.mpr (hnone .one))]
    rfl

/-- Settles O20. -/
theorem lowestNumberedCandidateWins : Obligations.LowestNumberedCandidateWins := by
  intro s
  obtain ⟨-, -, -, -, -, -, -, hlowest, hnone⟩ := s.ia.recomputed_afterRecompute
  exact ⟨fun n hn => (hlowest n hn).left, fun h => (hnone h).left⟩

/-- Settles O21, by the side of the bank boundary the winner is on. -/
theorem selectionFloodsTheWinningBank : Obligations.SelectionFloodsTheWinningBank := by
  intro s
  obtain ⟨-, -, -, -, -, -, -, hlowest, hnone⟩ := s.ia.recomputed_afterRecompute
  refine ⟨fun n hn hlt => ?_, fun n hn hle => ?_, fun h => (hnone h).right⟩
  · simpa only [if_pos hlt, State.recompute_ia] using (hlowest n hn).right
  · simpa only [if_neg (Nat.not_lt.mpr hle), State.recompute_ia] using (hlowest n hn).right

/-- Settles O22: the registers are `Ia.recomputed`. -/
theorem outputFollowsTheVector : Obligations.OutputFollowsTheVector := by
  intro s
  exact ⟨s.ia.recomputed, s.ia.recomputed_afterRecompute, rfl, rfl⟩

/-- Settles O23: no line is below line 0, and four times 0 is no request. -/
theorem lineZeroWinsWithoutARequest : Obligations.LineZeroWinsWithoutARequest := by
  intro s h
  have hlowest : s.ia.Lowest 0 := ⟨by decide, h, nofun⟩
  have hvec : s.recompute.ia.vector = 0 := (lowestNumberedCandidateWins s).left 0 hlowest
  obtain ⟨hflood, -, -⟩ := selectionFloodsTheWinningBank s
  refine ⟨hvec, ?_, hflood 0 hlowest (by decide)⟩
  calc s.recompute.ia.irqOut
      = irqOf s.recompute.ia.vector := rfl
    _ = false := by rw [hvec]; rfl

/-- Settles O24, by the pending words the notification stores. -/
theorem lineNotificationSetsThePendingBit : Obligations.LineNotificationSetsThePendingBit := by
  intro s line level hline
  have hexec : exec (.iaLine line level) s = .next (s.storeIa (s.ia.notified line level)) :=
    (lineAccess_next _ _ _).mpr ⟨decide_eq_true hline, rfl⟩
  rw [s.ia.notified_eq line level] at hexec
  refine ⟨_, _, fun n hn => ?_, completesRecomputing_of_storeIa hexec⟩
  obtain ⟨b, k, hk, rfl⟩ := exists_bank_bit n hn
  have hold : lineFlag s.ia.pending0 s.ia.pending1 _ = _ := lineFlag_bank s.ia.pending b k hk
  rw [hold, ← s.ia.pending_notified line level b k hk]
  exact lineFlag_bank (s.ia.notified line level).pending b k hk

/-- Settles O27: each request is a store of the registers the statement names. -/
theorem aggregatorWritesStoreAndRecompute : Obligations.AggregatorWritesStoreAndRecompute := by
  intro s v
  have hnot : 0xFFFFFFFF - v = ~~~v := BitVec.allOnes_sub_eq_not v
  rw [hnot]
  exact ⟨completesRecomputing_of_storeIa rfl, completesRecomputing_of_storeIa rfl,
    completesRecomputing_of_storeIa rfl, completesRecomputing_of_storeIa rfl,
    completesRecomputing_of_storeIa rfl, completesRecomputing_of_storeIa rfl,
    completesRecomputing_of_storeIa rfl, completesRecomputing_of_storeIa rfl⟩

/-- Settles O28, by the parameter. -/
theorem ignoredAggregatorWrites : Obligations.IgnoredAggregatorWrites := by
  intro s off v
  have hvector : exec (.iaWVector v) s = .next s.recomputeIfIgnored := rfl
  have hundef : off ∉ iaOffsets →
      exec (.iaWUndef off v) s = .next (s.report .ia .write off).recomputeIfIgnored :=
    undefAccess_of_not_mem iaMap off _
  refine ⟨fun hp => ⟨?_, fun hoff => ?_⟩, fun hp => ⟨?_, fun hoff => ?_⟩⟩
  · rw [hvector, recomputeIfIgnored_of_false s hp]
  · rw [hundef hoff, recomputeIfIgnored_of_false (s.report .ia .write off) hp]
    rfl
  · rw [recomputeIfIgnored_of_true s hp] at hvector
    exact completesRecomputing_of_recompute (by simp) hvector
  · have hexec := hundef hoff
    rw [recomputeIfIgnored_of_true (s.report .ia .write off) hp] at hexec
    exact completesRecomputing_of_recompute (t := s.report .ia .write off) rfl hexec

/-- Settles O30: the stored complement is also what bank 0's candidates are taken from. -/
theorem pendingReadsBackTheComplementUnlessSelected : Obligations.PendingReadsBackTheComplementUnlessSelected := by
  intro s v
  have hcand : (s.ia.setPending .zero (~~~v)).candidates .zero = ~~~v &&& s.ia.enable0 &&& ~~~s.ia.mask0 :=
    Ia.candidates_eq _ .zero
  have hread : ∀ t, exec .iaRPending0 t = .next { t with result := some (t.ia.pending .zero) } := fun _ => rfl
  refine ⟨s.storeIa (s.ia.setPending .zero (~~~v)), rfl, fun h => ?_, fun h => ?_⟩
  · rw [hread, State.storeIa_ia, Ia.recomputed_pending_zero, hcand, if_pos h, Ia.pending_setPending_same]
  · rw [hread, State.storeIa_ia, Ia.recomputed_pending_zero, hcand, if_neg h]

/-- Settles O25: the gate refuses the line. -/
theorem linesAboveFortyAreRefused : Obligations.LinesAboveFortyAreRefused := by
  intro s line level h
  have hout : lineInRange line = false := decide_eq_false (Nat.not_le.mpr h)
  exact if_neg (by simp [hout])

/-- Settles O26: each request answers its own register. -/
theorem aggregatorReadsReturnTheirRegisters : Obligations.AggregatorReadsReturnTheirRegisters :=
  fun _ => ⟨rfl, rfl, rfl, rfl, rfl, rfl, rfl, rfl, rfl⟩

/-- Settles O29: the gates pass, and the access is a report with the answer 0. -/
theorem undefinedReadsReturnZeroAndReport : Obligations.UndefinedReadsReturnZeroAndReport := by
  intro s off n hd hn
  exact ⟨undefAccess_of_not_mem iaMap off _,
    fun hoff => (undefAccess_of_not_mem spiMap off _ hoff).trans (spiAccess_of_domain n s _ hd hn)⟩

end Sys2Proof.Machine

/-! PROOFS. The chip-select protocol, the exchanges of a burst and the SPI's accesses as one equation each, and the
statements of 41_spi.md. -/

namespace Sys2Proof.Machine

/-! ## The chip-select protocol (R151, R152) -/

/-- The line levels an actioned protocol call leaves, for a line or for none (R151). -/
def actionedLevels : CsIndex → Bool → Vector Bool 4
  | some n, level => csLevels n level
  | none, _ => Vector.replicate 4 true

/-- The events of an actioned protocol call, for a line or for none (R151). -/
def actionedEvents : CsIndex → Bool → List Event
  | some n, level => csEvents n level
  | none, _ => [.cs 0 true, .cs 1 true, .cs 2 true, .cs 3 true]

theorem csLevels_true (n : BitVec 2) : csLevels n true = Vector.replicate 4 true := by
  ext i hi
  simp [csLevels]

theorem actionedLevels_true (index : CsIndex) : actionedLevels index true = Vector.replicate 4 true := by
  cases index with
  | none => rfl
  | some n => exact csLevels_true n

/-- A protocol call that is not the current state, as one equation. -/
theorem updateCs_actioned (s : State) (index : CsIndex) (level : Bool)
    (h : ¬(index = s.spi.csIndex ∧ level = s.spi.csLevel)) :
    s.updateCs index level = { s with
      spi := { s.spi with csIndex := index, csLevel := level, csLine := actionedLevels index level }
      events := s.events ++ actionedEvents index level } := by
  rw [updateCs_change s index level h, raiseCs_eq]
  cases index with
  | none => rfl
  | some n =>
    simp only [State.driveSelected, State.driveCs, State.storeCs, State.emit, State.withSpi, actionedLevels,
      actionedEvents, csLevels, csEvents, List.append_assoc, List.cons_append, List.nil_append]

/-- A protocol call for a line, actioned or not. -/
theorem updateCs_line (s : State) (n : BitVec 2) (level : Bool) :
    s.updateCs (some n) level =
      { s with spi := s.spi.afterCs n level, events := s.events ++ s.spi.eventsCs n level } := by
  unfold Spi.afterCs Spi.eventsCs
  by_cases h : some n = s.spi.csIndex ∧ level = s.spi.csLevel
  · rw [if_pos h, if_pos h, List.append_nil, updateCs_same s _ level h]
  · rw [if_neg h, if_neg h, updateCs_actioned s _ level h]
    rfl

/-- Of the SPI, a protocol call for a line writes index, level and lines only. -/
theorem Spi.afterCs_eq (q : Spi) (n : BitVec 2) (level : Bool) :
    q.afterCs n level =
      { q with csIndex := some n, csLevel := level, csLine := (q.afterCs n level).csLine } := by
  unfold Spi.afterCs
  split
  · obtain ⟨hindex, hlevel⟩ := ‹some n = q.csIndex ∧ level = q.csLevel›
    rw [hindex, hlevel]
  · rfl

/-! ## The exchanges of a burst (R153, R154) -/

/-- How many queued bytes `n` exchanges take with `r` bytes still to send: R154's k, from any exchange on. -/
def queuedTaken (n r : Nat) (tx : List Byte) : Nat := min (min r n) tx.length

/-- The outgoing bytes of `n` exchanges with `r` bytes still to send: queued bytes, then filler (R154). -/
def outgoing (n r : Nat) (tx : List Byte) : List Byte :=
  tx.take (queuedTaken n r tx) ++ List.replicate (n - queuedTaken n r tx) 0xFF

theorem burstOut_eq_outgoing (q : Spi) :
    burstOut q = outgoing q.burstBytes.toNat q.sendBytes.toNat q.txFifo := rfl

theorem outgoing_length (n r : Nat) (tx : List Byte) : (outgoing n r tx).length = n := by
  simp only [outgoing, queuedTaken, List.length_append, List.length_take, List.length_replicate]
  omega

/-- Exchange i sends the oldest queued byte if one is still to be sent, and the filler otherwise. -/
theorem nextOut_cases (i send : Nat) (tx : List Byte) :
    (i < send ∧ ∃ b rest, tx = b :: rest ∧ nextOut i send tx = (b, rest)) ∨
    ((send ≤ i ∨ tx = []) ∧ nextOut i send tx = (0xFF, tx)) := by
  unfold nextOut
  split
  · cases tx with
    | nil => exact .inr ⟨.inr rfl, rfl⟩
    | cons b rest => exact .inl ⟨‹_›, b, rest, rfl, rfl⟩
  · exact .inr ⟨.inl (Nat.le_of_not_lt ‹_›), rfl⟩

/-- One more queued byte is taken exactly where one is still to be sent. -/
theorem queuedTaken_cons (n i send : Nat) (b : Byte) (rest : List Byte) (h : i < send) :
    queuedTaken (n + 1) (send - i) (b :: rest) = queuedTaken n (send - (i + 1)) rest + 1 := by
  simp only [queuedTaken, List.length_cons]
  omega

theorem queuedTaken_zero (n i send : Nat) (tx : List Byte) (h : send ≤ i ∨ tx = []) :
    queuedTaken n (send - i) tx = 0 := by
  unfold queuedTaken
  rcases h with h | rfl
  · omega
  · simp

/-- The outgoing bytes, exchange by exchange. -/
theorem outgoing_succ (n i send : Nat) (tx : List Byte) :
    outgoing (n + 1) (send - i) tx =
      (nextOut i send tx).1 :: outgoing n (send - (i + 1)) (nextOut i send tx).2 := by
  obtain ⟨hlt, b, rest, rfl, hnext⟩ | ⟨hnone, hnext⟩ := nextOut_cases i send tx
  · rw [hnext, outgoing, queuedTaken_cons n i send b rest hlt, Nat.add_sub_add_right]
    rfl
  · have hnone' : send ≤ i + 1 ∨ tx = [] := hnone.imp_left Nat.le_succ_of_le
    rw [hnext, outgoing, outgoing, queuedTaken_zero _ i send tx hnone, queuedTaken_zero _ _ send tx hnone']
    rfl

/-- The queue the exchanges leave, exchange by exchange. -/
theorem drop_queuedTaken_succ (n i send : Nat) (tx : List Byte) :
    tx.drop (queuedTaken (n + 1) (send - i) tx) =
      (nextOut i send tx).2.drop (queuedTaken n (send - (i + 1)) (nextOut i send tx).2) := by
  obtain ⟨hlt, b, rest, rfl, hnext⟩ | ⟨hnone, hnext⟩ := nextOut_cases i send tx
  · rw [hnext, queuedTaken_cons n i send b rest hlt]
    rfl
  · have hnone' : send ≤ i + 1 ∨ tx = [] := hnone.imp_left Nat.le_succ_of_le
    rw [hnext, queuedTaken_zero _ i send tx hnone, queuedTaken_zero _ _ send tx hnone']

/-- Pushing one byte and then as many as fit is pushing as many of all as fit (R17). -/
theorem fifoPush_append_take (depth : Nat) (q as : List Byte) (b : Byte) :
    fifoPush depth q b ++ as.take (depth - (fifoPush depth q b).length) =
      q ++ (b :: as).take (depth - q.length) := by
  by_cases h : q.length < depth
  · have hroom : depth - q.length = depth - (q.length + 1) + 1 := by omega
    rw [fifoPush_of_lt depth q b h, hroom, List.take_succ_cons]
    simp
  · have hfull : depth ≤ q.length := Nat.le_of_not_lt h
    rw [fifoPush_of_full depth q b hfull, Nat.sub_eq_zero_of_le hfull, List.take_zero, List.take_zero]

/-- `s` after the bytes `out` went to the device and were answered, with the TX FIFO `tx` left (R150, R154). -/
def State.exchanged (s : State) (out tx : List Byte) : State :=
  { s with
    spi := { s.spi with
      txFifo := tx
      rxFifo := s.spi.rxFifo ++ (deviceRun s.device out).1.take (s.params.fifoDepth - s.spi.rxFifo.length) }
    device := (deviceRun s.device out).2
    events := s.events ++ List.zipWith Event.xfer out (deviceRun s.device out).1 }

/-- One exchange, then others: their bytes in a row. -/
theorem exchange_exchanged (s : State) (i : Nat) (out tx : List Byte) :
    (s.exchange i).exchanged out tx =
      s.exchanged ((nextOut i s.spi.sendBytes.toNat s.spi.txFifo).1 :: out) tx := by
  unfold State.exchange State.exchanged
  simp only [State.emit, State.withDevice, State.withSpi, deviceRun, fifoPush_append_take,
    List.zipWith_cons_cons, List.append_assoc, List.cons_append, List.nil_append]

/-- R153's loop in R154's closed form, from any exchange on. -/
theorem exchanges_eq (n i : Nat) (s : State) :
    State.exchanges n i s =
      s.exchanged (outgoing n (s.spi.sendBytes.toNat - i) s.spi.txFifo)
        (s.spi.txFifo.drop (queuedTaken n (s.spi.sendBytes.toNat - i) s.spi.txFifo)) := by
  induction n generalizing i s with
  | zero => simp [State.exchanges, State.exchanged, outgoing, queuedTaken, deviceRun]
  | succ n ih =>
    rw [outgoing_succ, drop_queuedTaken_succ, ← exchange_exchanged]
    exact ih (i + 1) (s.exchange i)

/-! ## The burst (R153 to R155) -/

/-- The first bracket of a burst: the selected line goes low, if the condition asks for it and it was high. -/
theorem bracketLow_eq (s : State) (auto : Bool) :
    (if auto then s.updateCs s.spi.csIndex false else s) = { s with
      spi := { s.spi with
        csLevel := !auto && s.spi.csLevel
        csLine := if auto && s.spi.csLevel then actionedLevels s.spi.csIndex false else s.spi.csLine }
      events := s.events ++ if auto && s.spi.csLevel then actionedEvents s.spi.csIndex false else [] } := by
  cases auto with
  | false => simp
  | true =>
    cases hlevel : s.spi.csLevel with
    | false =>
      have hlow : s = { s with spi := { s.spi with csLevel := false } } := by rw [← hlevel]
      simpa [updateCs_same s s.spi.csIndex false ⟨rfl, hlevel.symm⟩] using hlow
    | true => simp [updateCs_actioned s s.spi.csIndex false (by simp [hlevel])]

/-- The second bracket of a burst: the selected line, low then, goes high. -/
theorem bracketHigh_eq (s : State) (auto : Bool) (h : auto = true → s.spi.csLevel = false) :
    (if auto then s.updateCs s.spi.csIndex true else s) = { s with
      spi := { s.spi with
        csLevel := auto || s.spi.csLevel
        csLine := if auto then Vector.replicate 4 true else s.spi.csLine }
      events := s.events ++ if auto then actionedEvents s.spi.csIndex true else [] } := by
  cases auto with
  | false => simp
  | true => simp [updateCs_actioned s s.spi.csIndex true (by simp [h rfl]), actionedLevels_true]

/-- A burst as one equation, for a line or for none. -/
theorem runBurst_eq (s : State) :
    s.runBurst = { s with
      spi := { s.spi with
        txFifo := s.spi.txFifo.drop (burstTaken s.spi)
        rxFifo := burstRx s.params.fifoDepth s.spi s.device
        csLevel := autoCs s.spi || s.spi.csLevel
        csLine := if autoCs s.spi then Vector.replicate 4 true else s.spi.csLine
        startBurst := false }
      device := (deviceRun s.device (burstOut s.spi)).2
      events := s.events
        ++ (if autoCs s.spi && s.spi.csLevel then actionedEvents s.spi.csIndex false else [])
        ++ burstEvents s.spi s.device
        ++ (if autoCs s.spi then actionedEvents s.spi.csIndex true else []) } := by
  unfold State.runBurst
  dsimp only
  rw [bracketLow_eq, exchanges_eq, bracketHigh_eq _ (autoCs s.spi) (by simp +contextual [State.exchanged])]
  cases autoCs s.spi <;> rfl

/-! ## The TFR_CTL write (R176) -/

/-- `s` after the protocol call of a TFR_CTL write, with its start bit stored (R176). -/
def State.selected (s : State) (v : Word) : State :=
  { s with
    spi := { s.spi.afterCs (v.extractLsb' 4 2) (v.getLsbD 7) with startBurst := v.getLsbD 31 }
    events := s.events ++ s.spi.eventsCs (v.extractLsb' 4 2) (v.getLsbD 7) }

theorem tfrCtlWrite_eq (s : State) (v : Word) :
    s.tfrCtlWrite v = if v.getLsbD 31 then (s.selected v).runBurst else s.selected v := by
  unfold State.tfrCtlWrite
  rw [updateCs_line]
  rfl

theorem tfrCtlWrite_of_no_burst (s : State) (v : Word) (h : v.getLsbD 31 = false) :
    s.tfrCtlWrite v = s.selected v := by
  rw [tfrCtlWrite_eq, if_neg (Bool.eq_false_iff.mp h)]

theorem tfrCtlWrite_of_burst (s : State) (v : Word) (h : v.getLsbD 31 = true) :
    s.tfrCtlWrite v = (s.selected v).runBurst := by
  rw [tfrCtlWrite_eq, if_pos h]

/-! ## The chip-select registers after a request (R151, R152, R242) -/

/-- From `p` to `q` the chip-select registers and lines stayed, or the lines now are as the registers say. -/
def Spi.CsStep (p q : Spi) : Prop :=
  (q.csIndex = p.csIndex ∧ q.csLevel = p.csLevel ∧ q.csLine = p.csLine) ∨ q.LinesFollow

theorem Spi.CsStep.refl (q : Spi) : q.CsStep q := .inl ⟨rfl, rfl, rfl⟩

theorem Spi.CsStep.trans {p q r : Spi} (h : p.CsStep q) (k : q.CsStep r) : p.CsStep r := by
  obtain ⟨hindex, hlevel, hline⟩ | hfollow := k
  · unfold Spi.CsStep Spi.LinesFollow
    rw [hindex, hlevel, hline]
    exact h
  · exact .inr hfollow

theorem Spi.CsStep.linesFollow {p q : Spi} (h : p.CsStep q) (hp : p.LinesFollow) : q.LinesFollow := by
  obtain ⟨hindex, hlevel, hline⟩ | hfollow := h
  · unfold Spi.LinesFollow
    rwa [hindex, hlevel, hline]
  · exact hfollow

/-- An actioned protocol call for line n drives no line low but n. -/
theorem csLevels_low (n : BitVec 2) (level : Bool) (m : Fin 4) (h : (csLevels n level)[m] = false) :
    m.val = n.toNat := by
  by_contra hne
  simp [csLevels, Ne.symm hne] at h

theorem Spi.LinesFollow.atMostOneLow {q : Spi} (h : q.LinesFollow) : q.AtMostOneLow := by
  obtain ⟨x, -, hline⟩ := h
  intro m n hm hn
  rw [hline] at hm hn
  exact Fin.ext ((csLevels_low x _ m hm).trans (csLevels_low x _ n hn).symm)

theorem Spi.AtMostOneLow.of_csLine {p q : Spi} (hp : p.AtMostOneLow) (h : q.csLine = p.csLine) :
    q.AtMostOneLow := by
  unfold Spi.AtMostOneLow
  rwa [h]

theorem Spi.csStep_afterCs (q : Spi) (n : BitVec 2) (level : Bool) : q.CsStep (q.afterCs n level) := by
  unfold Spi.afterCs
  split
  · exact .refl q
  · exact .inr ⟨n, rfl, rfl⟩

/-- A burst with automatic chip-select ends with the selected line high; another leaves the lines alone (R155). -/
theorem csStep_runBurst (s : State) (n : BitVec 2) (h : s.spi.csIndex = some n) :
    s.spi.CsStep s.runBurst.spi := by
  rw [runBurst_eq]
  cases autoCs s.spi with
  | false => exact .inl ⟨rfl, rfl, rfl⟩
  | true => exact .inr ⟨n, h, (csLevels_true n).symm⟩

theorem csStep_tfrCtlWrite (s : State) (v : Word) : s.spi.CsStep (s.tfrCtlWrite v).spi := by
  have hsel : s.spi.CsStep (s.selected v).spi := s.spi.csStep_afterCs _ _
  have hline : (s.selected v).spi.csIndex = some (v.extractLsb' 4 2) := by
    rw [State.selected, Spi.afterCs_eq]
  rw [tfrCtlWrite_eq]
  split
  · exact hsel.trans (csStep_runBurst _ _ hline)
  · exact hsel

/-- The reset's chip-select part in `Drive` mode is the five drives of an actioned call for line 0 (R242). -/
theorem resetCs_of_drive (s : State) (h : s.params.resetCsMode = .drive) :
    s.resetCs = { s with
      spi := { s.spi with csIndex := some 0, csLevel := true, csLine := csLevels 0 true }
      events := s.events ++ csEvents 0 true } := by
  simp [State.resetCs, h, raiseCs_eq, State.driveCs, State.storeCs, State.withSpi, State.emit, csLevels, csEvents]

/-- The reset's chip-select part in `Literal` mode drives nothing: the registers are set first (R242). -/
theorem resetCs_of_literal (s : State) (h : s.params.resetCsMode = .literal) :
    s.resetCs = s.storeCs (some 0) true := by
  have hsame : (s.storeCs (some 0) true).updateCs (some 0) true = s.storeCs (some 0) true :=
    updateCs_same _ _ _ ⟨rfl, rfl⟩
  simpa only [State.resetCs, State.storeCs_params, h] using hsame

theorem spiReset_linesFollow (s : State) (h : s.params.resetCsMode = .drive) : s.spiReset.spi.LinesFollow := by
  unfold State.spiReset
  rw [resetCs_of_drive s h]
  exact ⟨0, rfl, rfl⟩

theorem spiReset_csLine (s : State) (h : s.params.resetCsMode = .literal) :
    s.spiReset.spi.csLine = s.spi.csLine := by
  unfold State.spiReset
  rw [resetCs_of_literal s h]
  rfl

/-- What a request can do to the chip-select: only a `Literal` reset moves the registers away from the lines. -/
theorem Effect.chipSelect {s t : State} {b : Block} (h : Effect s b t) :
    s.spi.CsStep t.spi ∨ (s.params.resetCsMode = .literal ∧ t.spi.csLine = s.spi.csLine) := by
  cases b with
  | ia =>
    obtain ⟨hspi, -⟩ := (Keeps.of_effect h).spi_device rfl
    exact .inl (hspi ▸ .refl _)
  | spi =>
    cases h with
    | answer | reportRead | noEffect | reportWrite | rxDataRead | storeBurstBytes | storeSendBytes | queueTx =>
      exact .inl (.inl ⟨rfl, rfl, rfl⟩)
    | tfrCtlRead =>
      unfold State.tfrCtlRead
      split <;> exact .inl (.refl _)
    | tfrCtlWrite v => exact .inl (csStep_tfrCtlWrite s v)
    | fifoCtlWrite v =>
      rw [fifoCtlWrite_eq]
      exact .inl (.inl ⟨rfl, rfl, rfl⟩)
    | spiReset =>
      cases hmode : s.params.resetCsMode with
      | drive => exact .inl (.inr (spiReset_linesFollow s hmode))
      | literal => exact .inr ⟨rfl, spiReset_csLine s hmode⟩

/-- What a step can do to the chip-select: what its request can. -/
theorem step_chipSelect (s t : State) (h : step s = .next t) :
    s.spi.CsStep t.spi ∨ (s.params.resetCsMode = .literal ∧ t.spi.csLine = s.spi.csLine) := by
  obtain ⟨-, rfl⟩ | ⟨_, rest, i, -, -, hexec⟩ := step_cases s t h
  · exact .inl (.refl _)
  · exact (exec_effect i (s.begun rest) t hexec).chipSelect

/-! ## Requests that call no device (R150) -/

/-- No exchange with the downstream device between `s` and `t`. -/
structure NoTransfer (s t : State) : Prop where
  device : t.device = s.device
  xfers : t.events.filter Event.isXfer = s.events.filter Event.isXfer

namespace NoTransfer

variable {s t : State}

theorem of_eq (hd : t.device = s.device) (he : t.events = s.events) : NoTransfer s t :=
  ⟨hd, congrArg (List.filter Event.isXfer) he⟩

theorem trans {u : State} (h : NoTransfer s t) (k : NoTransfer t u) : NoTransfer s u :=
  ⟨k.device.trans h.device, k.xfers.trans h.xfers⟩

theorem of_append (es : List Event) (hd : t.device = s.device) (he : t.events = s.events ++ es)
    (hes : es.filter Event.isXfer = []) : NoTransfer s t :=
  ⟨hd, by rw [he, List.filter_append, hes, List.append_nil]⟩

theorem recomputeIfIgnored (s : State) : NoTransfer s s.recomputeIfIgnored := by
  unfold State.recomputeIfIgnored
  split
  · exact of_append _ rfl s.recompute_events rfl
  · exact of_eq rfl rfl

theorem storeIa (s : State) (a : Ia) : NoTransfer s (s.storeIa a) :=
  of_append _ rfl (s.storeIa_events a) rfl

theorem tfrCtlRead (s : State) : NoTransfer s s.tfrCtlRead := by
  unfold State.tfrCtlRead
  split <;> exact of_eq rfl rfl

theorem fifoCtlWrite (s : State) (v : Word) : NoTransfer s (s.fifoCtlWrite v) := by
  rw [fifoCtlWrite_eq]
  exact of_eq rfl rfl

theorem selected (s : State) (v : Word) : NoTransfer s (s.selected v) := by
  refine of_append (s.spi.eventsCs _ _) rfl rfl ?_
  unfold Spi.eventsCs
  split <;> rfl

theorem spiReset (s : State) : NoTransfer s s.spiReset := by
  unfold State.spiReset
  cases hmode : s.params.resetCsMode with
  | drive =>
    rw [resetCs_of_drive s hmode]
    exact of_append (csEvents 0 true) rfl rfl rfl
  | literal =>
    rw [resetCs_of_literal s hmode]
    exact of_eq rfl rfl

/-- An SPI access that completes called the device only if its effect did. -/
theorem of_spiAccess {n : Byte} {s t t' : State} (h : spiAccess n s t = .next t') (ht : NoTransfer s t) :
    NoTransfer s t' := by
  obtain ⟨-, -, rfl⟩ := (spiAccess_next _ _ _ _).mp h
  exact ht

/-- Of the requests that complete, only a TFR_CTL write with bit 31 set calls the device. -/
theorem of_exec (i : Instr) (s t : State) (h : exec i s = .next t)
    (hi : ∀ v n, i = .spiWTfrCtl v n → v.getLsbD 31 = false) : NoTransfer s t := by
  cases i with
  | iaRVector | iaRBaseAddr | iaRNmiCtl | iaRPending0 | iaRPending1 | iaREnable0 | iaREnable1 | iaRMask0
  | iaRMask1 =>
    cases h
    exact of_eq rfl rfl
  | iaRUndef off =>
    obtain ⟨-, ht⟩ := (undefAccess_next _ _ _ _).mp h
    cases ht
    exact of_append _ rfl rfl rfl
  | iaWVector v =>
    cases h
    exact recomputeIfIgnored s
  | iaWBaseAddr | iaWNmiCtl | iaWPending0 | iaWPending1 | iaWEnable0 | iaWEnable1 | iaWMask0 | iaWMask1 =>
    cases h
    exact storeIa s _
  | iaWUndef off v =>
    obtain ⟨-, ht⟩ := (undefAccess_next _ _ _ _).mp h
    cases ht
    have hreport : NoTransfer s (s.report .ia .write off) := of_append _ rfl rfl rfl
    exact hreport.trans (recomputeIfIgnored _)
  | iaLine line level =>
    obtain ⟨-, rfl⟩ := (lineAccess_next _ _ _).mp h
    exact storeIa s _
  | iaReset =>
    cases h
    exact of_append [.irq false] rfl rfl rfl
  | spiRTfrCtl n => exact of_spiAccess h (tfrCtlRead s)
  | spiWTfrCtl v n =>
    refine of_spiAccess h ?_
    rw [tfrCtlWrite_of_no_burst s v (hi v n rfl)]
    exact selected s v
  | spiWFifoCtl v n => exact of_spiAccess h (fifoCtlWrite s v)
  | spiWGlbCtl v n =>
    refine of_spiAccess h ?_
    split
    · exact spiReset s
    · exact of_eq rfl rfl
  | spiRUndef off n | spiWUndef off v n =>
    obtain ⟨-, ht⟩ := (undefAccess_next _ _ _ _).mp h
    exact of_spiAccess ht (of_append _ rfl rfl rfl)
  | spiReset =>
    obtain ⟨-, rfl⟩ := (spiBuilt_next _ _ _).mp h
    exact spiReset s
  | _ => exact of_spiAccess h (of_eq rfl rfl)

end NoTransfer

/-! ## The RXDATA read (R51, R170) -/

/-- Byte j of a byte shifted to position k. -/
theorem extractLsb'_setWidth_shiftLeft (b : Byte) (k j : Nat) (hj : j < 4) :
    (b.setWidth 32 <<< (8 * k) : Word).extractLsb' (8 * j) 8 = if j = k then b else 0 := by
  refine BitVec.eq_of_getLsbD_eq fun i hi => ?_
  have hlt : 8 * j + i < 32 := by omega
  have hlt' : 8 * j + i - 8 * k < 32 := by omega
  rw [BitVec.getLsbD_extractLsb', BitVec.getLsbD_shiftLeft, BitVec.getLsbD_setWidth, decide_eq_true hi,
    decide_eq_true hlt, decide_eq_true hlt', Bool.true_and, Bool.true_and, Bool.true_and]
  rcases Nat.lt_trichotomy j k with hjk | rfl | hjk
  · have hbelow : 8 * j + i < 8 * k := by omega
    simp [hbelow, hjk.ne]
  · simp
  · have habove : 8 ≤ 8 * j + i - 8 * k := by omega
    simp [BitVec.getLsbD_of_ge b _ habove, hjk.ne']

/-- Byte j of `n` bytes of a queue packed from position `k` on, 0 where there is none (R51). -/
def packedByte (n k : Nat) (q : List Byte) (j : Nat) : Byte :=
  if k ≤ j ∧ j < k + n then q.getD (j - k) 0 else 0

theorem packedByte_of_lt (n k : Nat) (q : List Byte) (j : Nat) (h : j < k) : packedByte n k q j = 0 :=
  if_neg (by omega)

theorem packedByte_zero (k : Nat) (q : List Byte) (j : Nat) : packedByte 0 k q j = 0 :=
  if_neg (by omega)

theorem packedByte_nil (n k j : Nat) : packedByte n k [] j = 0 := by
  simp [packedByte]

/-- The first byte stands at position `k`, the others from the next position on. -/
theorem packedByte_cons (n k : Nat) (b : Byte) (rest : List Byte) (j : Nat) :
    packedByte (n + 1) k (b :: rest) j = (if j = k then b else 0) ||| packedByte n (k + 1) rest j := by
  rcases Nat.lt_trichotomy j k with hjk | rfl | hjk
  · rw [packedByte_of_lt _ _ _ _ hjk, packedByte_of_lt _ _ _ _ (by omega), if_neg hjk.ne]
    rfl
  · rw [packedByte_of_lt _ _ _ _ (Nat.lt_succ_self j)]
    simp [packedByte]
  · obtain ⟨m, rfl⟩ := Nat.exists_eq_add_of_lt hjk
    have hm : k + m + 1 - k = m + 1 := by omega
    have hm' : k + m + 1 - (k + 1) = m := by omega
    rw [if_neg hjk.ne', packedByte, packedByte, hm, hm', List.getD_cons_succ]
    exact (if_congr (by omega) rfl rfl).trans BitVec.zero_or.symm

/-- The bytes of the RXDATA loop's word: those of the queue, onto those already there. -/
theorem popWord_byte (n k : Nat) (r : Word) (q : List Byte) (j : Nat) (hj : j < 4) :
    (popWord n k r q).1.extractLsb' (8 * j) 8 = r.extractLsb' (8 * j) 8 ||| packedByte n k q j := by
  induction n generalizing k r q with
  | zero =>
    rw [packedByte_zero]
    exact BitVec.or_zero.symm
  | succ n ih =>
    cases q with
    | nil => simp only [popWord, fifoPop, ih, packedByte_nil]
    | cons b rest =>
      rw [popWord, fifoPop, ih, BitVec.extractLsb'_or, extractLsb'_setWidth_shiftLeft b k j hj, BitVec.or_assoc,
        packedByte_cons]

/-! ## The fields of a written value -/

theorem lowByteField_toNat (v : Word) : (lowByteField v).toNat = v.toNat % 256 := by
  simp [lowByteField]

/-! ## The events of a burst (R154, R155) -/

theorem filter_isXfer_actionedEvents (index : CsIndex) (level : Bool) :
    (actionedEvents index level).filter Event.isXfer = [] := by
  cases index with
  | none => rfl
  | some n => rfl

theorem filter_isXfer_zipWith (out answers : List Byte) :
    (List.zipWith Event.xfer out answers).filter Event.isXfer = List.zipWith Event.xfer out answers := by
  rw [List.filter_eq_self]
  intro e he
  obtain ⟨i, hi, rfl⟩ := List.mem_iff_getElem.mp he
  rw [List.getElem_zipWith]
  rfl

/-- The exchanges of a burst are its only ones: the chip-select drives are none. -/
theorem filter_isXfer_runBurst (s : State) :
    s.runBurst.events.filter Event.isXfer = s.events.filter Event.isXfer ++ burstEvents s.spi s.device := by
  have hbracket : ∀ (c level : Bool),
      (if c then actionedEvents s.spi.csIndex level else []).filter Event.isXfer = [] := by
    intro c level
    split
    · exact filter_isXfer_actionedEvents _ _
    · rfl
  rw [runBurst_eq]
  simp only [List.filter_append, hbracket, List.append_nil]
  rw [burstEvents, filter_isXfer_zipWith]

/-! ## The statements of 41_spi.md -/

/-- Settles O52: the request leaves the lines, or leaves them as the registers say, with only the selected one low. -/
theorem stepKeepsAtMostOneLineLow : Obligations.StepKeepsAtMostOneLineLow := by
  intro s t hs h
  obtain (⟨-, -, hline⟩ | hfollow) | ⟨-, hline⟩ := step_chipSelect s t h
  · exact hs.of_csLine hline
  · exact hfollow.atMostOneLow
  · exact hs.of_csLine hline

/-- Settles O53: in `Drive` mode no request moves the chip-select registers away from the lines. -/
theorem stepKeepsTheLinesFollowingTheRegisters : Obligations.StepKeepsTheLinesFollowingTheRegisters := by
  intro s t hmode hs h
  obtain hstep | ⟨hliteral, -⟩ := step_chipSelect s t h
  · exact hstep.linesFollow hs
  · rw [hmode] at hliteral
    cases hliteral

/-- Settles O12: a filtered event list that is the same has the same exchanges. -/
theorem onlyABurstCallsTheDevice : Obligations.OnlyABurstCallsTheDevice := by
  intro i s t h hi
  obtain ⟨hdevice, hxfers⟩ := NoTransfer.of_exec i s t h hi
  refine ⟨hdevice, fun o a hmem => ?_⟩
  have hfilter : Event.xfer o a ∈ t.events.filter Event.isXfer := List.mem_filter.mpr ⟨hmem, rfl⟩
  rw [hxfers] at hfilter
  exact List.mem_of_mem_filter hfilter

/-- Settles O36: the loop's word byte by byte, and the queue it leaves. -/
theorem rxdataReadPopsLittleEndian : Obligations.RxdataReadPopsLittleEndian := by
  intro s n hd hn
  have hexec : exec (.spiRRxdata n) s = .next (s.rxDataRead n) := spiAccess_of_domain n s _ hd hn
  obtain ⟨-, hn4⟩ := of_decide_eq_true hn
  have hbyte : ∀ j < 4, (popWord n.toNat 0 0 s.spi.rxFifo).1.extractLsb' (8 * j) 8 =
      packedByte n.toNat 0 s.spi.rxFifo j := fun j hj =>
    (popWord_byte n.toNat 0 0 s.spi.rxFifo j hj).trans (by simp)
  refine ⟨(popWord n.toNat 0 0 s.spi.rxFifo).1, ?_, fun j hj => ?_, fun j hj hj4 => ?_⟩
  · rw [hexec, ← popWord_snd n.toNat 0 0 s.spi.rxFifo]
    rfl
  · rw [hbyte j (by omega)]
    simp [packedByte, hj]
  · rw [hbyte j hj4]
    exact if_neg (by omega)

/-- Settles O43. -/
theorem transferControlWriteUpdatesTheChipSelect : Obligations.TransferControlWriteUpdatesTheChipSelect := by
  intro s v n hd hn hstart
  have hexec : exec (.spiWTfrCtl v n) s = .next (s.tfrCtlWrite v) := spiAccess_of_domain n s _ hd hn
  rw [hexec, tfrCtlWrite_of_no_burst s v hstart, State.selected, hstart]

/-- Settles O44: the closed form of the burst, field by field. -/
theorem burstExchangesItsBytes : Obligations.BurstExchangesItsBytes := by
  intro s
  have hxfers := filter_isXfer_runBurst s
  have hlength : (burstOut s.spi).length = s.spi.burstBytes.toNat := by
    rw [burstOut_eq_outgoing, outgoing_length]
  rw [runBurst_eq] at hxfers ⊢
  exact ⟨rfl, rfl, rfl, hlength, hxfers, rfl, rfl, rfl⟩

/-- Settles O45, by whether the condition asks for the brackets and whether the line was high. -/
theorem burstBracketsTheTransferWithChipSelect : Obligations.BurstBracketsTheTransferWithChipSelect := by
  intro s idx hidx
  rw [runBurst_eq, hidx]
  refine ⟨fun hle => ?_, fun hlt hlevel => ?_, fun hlt hlevel => ?_⟩
  · have hauto : autoCs s.spi = false := decide_eq_false (Nat.not_lt.mpr hle)
    simp [hauto]
  · have hauto : autoCs s.spi = true := decide_eq_true hlt
    simp [hauto, hlevel, actionedEvents]
  · have hauto : autoCs s.spi = true := decide_eq_true hlt
    simp [hauto, hlevel, actionedEvents]

/-- Settles O46: the burst's closed form in the state the write's chip-select part leaves. -/
theorem transferControlWriteRunsTheBurst : Obligations.TransferControlWriteRunsTheBurst := by
  rintro s v n idx level auto hd hn hstart rfl rfl rfl
  have hexec : exec (.spiWTfrCtl v n) s = .next (s.tfrCtlWrite v) := spiAccess_of_domain n s _ hd hn
  rw [hexec, tfrCtlWrite_of_burst s v hstart, runBurst_eq, State.selected, Spi.afterCs_eq]
  rfl

/-- Settles O33: the gate passes, and each access is an answer. -/
theorem constantAndCounterReads : Obligations.ConstantAndCounterReads := by
  intro s n hd hn
  have hgate := fun t => spiAccess_of_domain n s t hd hn
  exact ⟨hgate _, hgate _, hgate _, hgate _, hgate _, hgate _, hgate _, hgate _⟩

/-- Settles O37: the byte stored is `lowByteField`. -/
theorem counterWritesStoreTheLowByte : Obligations.CounterWritesStoreTheLowByte := by
  intro s v n hd hn
  have hgate := fun t => spiAccess_of_domain n s t hd hn
  exact ⟨lowByteField v, lowByteField_toNat v, hgate _, hgate _, hgate _⟩

/-- Settles O38, by whether the push finds room. -/
theorem txdataWriteQueuesOneByte : Obligations.TxdataWriteQueuesOneByte := by
  intro s v n hd hn
  have hexec : exec (.spiWTxdata v n) s = .next (s.withSpi { s.spi with
      txFifo := fifoPush s.params.fifoDepth s.spi.txFifo (lowByteField v) }) := spiAccess_of_domain n s _ hd hn
  refine ⟨fun hroom => ⟨lowByteField v, lowByteField_toNat v, ?_⟩, fun hfull => ?_⟩
  · rw [hexec, fifoPush_of_lt _ _ _ hroom]
    rfl
  · rw [hexec, fifoPush_of_full _ _ _ hfull]
    rfl

/-- Settles O39: the gates pass, and each access is the state it found, or a report. -/
theorem controllerWritesWithoutEffect : Obligations.ControllerWritesWithoutEffect := by
  intro s v off n hd hn
  have hgate := fun t => spiAccess_of_domain n s t hd hn
  exact ⟨hgate s, hgate s, hgate s, hgate s,
    fun hoff => (undefAccess_of_not_mem spiMap off _ hoff).trans (hgate _)⟩

/-- Settles O41. -/
theorem chipSelectProtocolDrivesOnlyOnChange : Obligations.ChipSelectProtocolDrivesOnlyOnChange :=
  fun s n level => ⟨updateCs_same s (some n) level, updateCs_actioned s (some n) level⟩

/-- Settles O42. -/
theorem chipSelectProtocolWithoutALine : Obligations.ChipSelectProtocolWithoutALine :=
  fun s level => updateCs_actioned s none level

/-- Settles O48: the two requests share their gate for the depth, and bit 31 decides the effect. -/
theorem globalControlBit31ResetsTheController : Obligations.GlobalControlBit31ResetsTheController := by
  intro s v n hd hn
  have hexec : exec (.spiWGlbCtl v n) s = .next (if v.getLsbD 31 then s.spiReset else s) :=
    spiAccess_of_domain n s _ hd hn
  have hreset : exec .spiReset s = .next s.spiReset := (spiBuilt_next _ _ _).mpr ⟨by omega, rfl⟩
  refine ⟨fun hbit => ?_, fun hbit => ⟨?_, s.spiReset, hreset⟩⟩
  · rw [hexec, if_neg (Bool.eq_false_iff.mp hbit)]
  · rw [hexec, if_pos hbit, hreset]

end Sys2Proof.Machine

/-! PROOFS. The statement of 60_exceptions.md: the gates a request goes through all pass in the domain. -/

namespace Sys2Proof.Machine

/-- An SPI access to an undefined offset passes the gates for the offset, the size and the depth. -/
theorem undefAccess_spi_of_domain (off : Word) (n : Byte) (s t : State) (hd : 1 ≤ s.params.fifoDepth)
    (hoff : wfSpiUndef off = true) (hn : wfSize n = true) :
    undefAccess spiMap off (spiAccess n s t) = .next t :=
  (undefAccess_of_not_mem spiMap off _ (not_mem_of_wfSpiUndef off hoff)).trans (spiAccess_of_domain n s t hd hn)

/-- Settles O9, by the gates of the request: an IA register at a defined offset or the IA's reset has none; the gates
for an offset, a line and a size are open in the domain, the one for the depth by the hypothesis. -/
theorem everyRequestCompletes : Obligations.EveryRequestCompletes := by
  intro i s hwf hd
  have hgate := fun n t => spiAccess_of_domain n s t hd
  cases i with
  | iaRVector | iaRBaseAddr | iaRNmiCtl | iaRPending0 | iaRPending1 | iaREnable0 | iaREnable1 | iaRMask0
  | iaRMask1 | iaWVector | iaWBaseAddr | iaWNmiCtl | iaWPending0 | iaWPending1 | iaWEnable0 | iaWEnable1
  | iaWMask0 | iaWMask1 | iaReset => exact ⟨_, rfl⟩
  | iaRUndef off | iaWUndef off v =>
    exact ⟨_, undefAccess_of_not_mem iaMap off _ (not_mem_of_wfIaUndef off hwf)⟩
  | iaLine line level => exact ⟨_, (lineAccess_next _ _ _).mpr ⟨hwf, rfl⟩⟩
  | spiRGlbCtl n | spiRTfrCtl n | spiRIntCtl n | spiRFifoCtl n | spiRFifoSta n | spiRClkCtl n | spiRBurstCnt n
  | spiRSendCnt n | spiRBurstCtl n | spiRTxdata n | spiRRxdata n => exact ⟨_, hgate n _ hwf⟩
  | spiRUndef off n =>
    obtain ⟨hoff, hn⟩ := Bool.and_eq_true_iff.mp hwf
    exact ⟨_, undefAccess_spi_of_domain off n s _ hd hoff hn⟩
  | spiWGlbCtl v n | spiWTfrCtl v n | spiWIntCtl v n | spiWFifoCtl v n | spiWFifoSta v n | spiWClkCtl v n
  | spiWBurstCnt v n | spiWSendCnt v n | spiWBurstCtl v n | spiWTxdata v n | spiWRxdata v n =>
    obtain ⟨hn, -⟩ := Bool.and_eq_true_iff.mp hwf
    exact ⟨_, hgate n _ hn⟩
  | spiWUndef off v n =>
    obtain ⟨hdom, -⟩ := Bool.and_eq_true_iff.mp hwf
    obtain ⟨hoff, hn⟩ := Bool.and_eq_true_iff.mp hdom
    exact ⟨_, undefAccess_spi_of_domain off n s _ hd hoff hn⟩
  | spiReset => exact ⟨_, (spiBuilt_next _ _ _).mpr ⟨by omega, rfl⟩⟩

end Sys2Proof.Machine

/-! PROOFS. The statements of 70_reset_and_hazards.md: the two resets, and the chip-select lines at construction. -/

namespace Sys2Proof.Machine

/-! ## The SPI reset's next state (R242) -/

/-- The reset in `Drive` mode: the SPI as at construction, lines included, and the five drives. -/
theorem spiReset_of_drive (s : State) (h : s.params.resetCsMode = .drive) :
    s.spiReset = { s with spi := Spi.initial, events := s.events ++ csEvents 0 true } := by
  unfold State.spiReset
  rw [resetCs_of_drive s h, csLevels_true]
  rfl

/-- The reset in `Literal` mode: the SPI as at construction but for the lines, and no drive. -/
theorem spiReset_of_literal (s : State) (h : s.params.resetCsMode = .literal) :
    s.spiReset = { s with spi := { Spi.initial with csLine := s.spi.csLine } } := by
  unfold State.spiReset
  rw [resetCs_of_literal s h]
  rfl

/-! ## The lines at construction (R60, R240) -/

/-- Line 0 is selected at the high level, so high lines are the ones the registers say. -/
theorem Spi.initial_linesFollow : Spi.initial.LinesFollow := ⟨0, rfl, (csLevels_true 0).symm⟩

/-- The lines at construction: high, so at most one is low, and as the registers say. -/
theorem construct_lines (p : Params) (d : Downstream) :
    (State.construct p d).spi.csLine = Vector.replicate 4 true ∧
    (State.construct p d).spi.AtMostOneLow ∧ (State.construct p d).spi.LinesFollow :=
  ⟨rfl, Spi.initial_linesFollow.atMostOneLow, Spi.initial_linesFollow⟩

/-! ## The obligations -/

/-- Settles O31: the request is `State.iaReset`, which stores `Ia.initial` and then reports the low output. -/
theorem aggregatorResetZeroesEverything : Obligations.AggregatorResetZeroesEverything :=
  fun _ => rfl

/-- Settles O47: the gate for the depth passes, and the mode decides the effect. -/
theorem controllerResetRestoresTheDefaults : Obligations.ControllerResetRestoresTheDefaults := by
  intro s hd
  have hexec : exec .spiReset s = .next s.spiReset := (spiBuilt_next _ _ _).mpr ⟨by omega, rfl⟩
  refine ⟨fun hmode => ?_, fun hmode => ?_⟩
  · rw [hexec, spiReset_of_drive s hmode]
    rfl
  · rw [hexec, spiReset_of_literal s hmode]
    rfl

/-- Settles O54; `State.reset` is a construction. -/
theorem constructionHasItsLinesHigh : Obligations.ConstructionHasItsLinesHigh := by
  intro p d
  obtain ⟨hhigh, hone, hfollow⟩ := construct_lines p d
  exact ⟨hhigh, hone, hfollow, construct_lines Params.default (.unknown 0)⟩

end Sys2Proof.Machine

/-! PROOFS. An SPI built with FIFO depth 0 (decision D22): every SPI request of the domain ends at the gate for the
depth. -/

namespace Sys2Proof.Machine

/-- At depth 0 the gate refuses, whatever the effect behind it. -/
theorem spiBuilt_refused_of_depth (s t : State) (hd : s.params.fifoDepth = 0) :
    spiBuilt s t = .refused .fifoDepthZero :=
  if_pos hd

/-- In the domain an SPI request is its effect behind the gate for the depth: its gates for the offset and the size
are open. -/
theorem exec_eq_spiBuilt (i : Instr) (s : State) (hspi : i.block = .spi) (hwf : i.wf = true) :
    ∃ t, exec i s = spiBuilt s t := by
  have hgate := fun n t => spiAccess_of_wfSize n s t
  have hundef := fun off (o : Host.Outcome State Fault Refusal) (hoff : wfSpiUndef off = true) =>
    undefAccess_of_not_mem spiMap off o (not_mem_of_wfSpiUndef off hoff)
  cases i with
  | iaRVector | iaRBaseAddr | iaRNmiCtl | iaRPending0 | iaRPending1 | iaREnable0 | iaREnable1 | iaRMask0
  | iaRMask1 | iaRUndef | iaWVector | iaWBaseAddr | iaWNmiCtl | iaWPending0 | iaWPending1 | iaWEnable0
  | iaWEnable1 | iaWMask0 | iaWMask1 | iaWUndef | iaLine | iaReset => cases hspi
  | spiRGlbCtl n | spiRTfrCtl n | spiRIntCtl n | spiRFifoCtl n | spiRFifoSta n | spiRClkCtl n | spiRBurstCnt n
  | spiRSendCnt n | spiRBurstCtl n | spiRTxdata n | spiRRxdata n => exact ⟨_, hgate n _ hwf⟩
  | spiRUndef off n =>
    obtain ⟨hoff, hn⟩ := Bool.and_eq_true_iff.mp hwf
    exact ⟨_, (hundef off _ hoff).trans (hgate n _ hn)⟩
  | spiWGlbCtl v n | spiWTfrCtl v n | spiWIntCtl v n | spiWFifoCtl v n | spiWFifoSta v n | spiWClkCtl v n
  | spiWBurstCnt v n | spiWSendCnt v n | spiWBurstCtl v n | spiWTxdata v n | spiWRxdata v n =>
    obtain ⟨hn, -⟩ := Bool.and_eq_true_iff.mp hwf
    exact ⟨_, hgate n _ hn⟩
  | spiWUndef off v n =>
    obtain ⟨hdom, -⟩ := Bool.and_eq_true_iff.mp hwf
    obtain ⟨hoff, hn⟩ := Bool.and_eq_true_iff.mp hdom
    exact ⟨_, (hundef off _ hoff).trans (hgate n _ hn)⟩
  | spiReset => exact ⟨_, rfl⟩

/-- Settles O17: the request reaches the gate for the depth, which refuses it. -/
theorem depthZeroIsRefused : Obligations.DepthZeroIsRefused := by
  intro i s hspi hwf hd
  obtain ⟨t, ht⟩ := exec_eq_spiBuilt i s hspi hwf
  exact ht.trans (spiBuilt_refused_of_depth s t hd)

end Sys2Proof.Machine
